-- ==== Sys2Proof/Word.lean ====
section
/-! DEFINITION. The words of the block: bytes, tick values, 16-bit addresses and command words. -/

namespace Sys2Proof

/-- One byte: the unit of every access (R51), bit 7 the most significant (R5). -/
abbrev Byte := BitVec 8

/-- A tick counter value, timeout, reference or budget: `TICK_W` = 32 bits (R4, R24). -/
abbrev Tick := BitVec 32

/-- A 16-bit KNX address (R22, R71). -/
abbrev Addr := BitVec 16

/-- A host command on its way to the block: `op` in bits 7..0 and the fields of its format
packed upward from bit 8 in the order of R71. R71 leaves the packing open: DESIGN CHOICE, log 1. -/
abbrev CmdWord := BitVec 152

end Sys2Proof
end

