-- ==== Sys2Proof/Config.lean ====
section
/-! DEFINITION. The parameters of the block (R4): the valued ones as plain constants, the OPEN ones and the
free values as constants without a body, so that no proof can know them. -/

namespace Sys2Proof.Config

/-- `T_INFINITE` = 2^TICK_W - 1, the sentinel "infinite" timeout (R4). -/
def tInfinite : Tick := 0xFFFFFFFF#32

/-- `MIN_FRAME`, the least length of a frame (R4, R90). -/
def minFrame : Nat := 7

/-- `MAX_FRAME`, the size of `TXBUF` and of `RXBUF` (R4). -/
def maxFrame : Nat := 22

/-- `MAX_PAYLOAD`, the greatest payload length (R4). -/
def maxPayload : Nat := 15

/-- `DATA_START` (R4, R81). -/
def dataStart : Byte := 0x80#8

/-- `DATA_CONT_BASE` (R4, R81). -/
def dataContBase : Byte := 0x80#8

/-- `DATA_END_BASE` (R4, R81, 90_conflicts.md C10). -/
def dataEndBase : Byte := 0x80#8

/-- `CTRL_FIXED`, the fixed format bit (R4, R87). PRESUMED by the spec itself (G1), log 15. -/
def ctrlFixed : Byte := 0x10#8

/-- `CTRL_RESERVED`, the control bits that must be zero on receive (R4, R87). -/
def ctrlReserved : Byte := 0x63#8

/-- `FT_STANDARD` (R4, R79). PRESUMED by the spec itself (G2), log 15. -/
def ftStandard : BitVec 1 := 1#1

/-- `ACK_BASE` (R4, R82). -/
def ackBase : Byte := 0x10#8

/-- `LOCAL_ADDR_RESET` (R4, R33). -/
def localAddrReset : Addr := 0x0000#16

/-- `T_SVC`, OPEN (R4): the timeout of `ph_reset`, `state_query`, `ph_request`. Log 9. -/
opaque tSvc : Tick

/-- `T_ACK`, OPEN (R4): the timeout of an acknowledgement send. Log 9. -/
opaque tAck : Tick

/-- `T_DL`, OPEN (R4): the timeout `build_and_send` passes on. Log 9. -/
opaque tDl : Tick

/-- The value of `T_RX_BYTE` as a number below `T_INFINITE`. Log 9. -/
opaque tRxByteRaw : Fin 4294967295

/-- `T_RX_BYTE`, OPEN with the one constraint `T_RX_BYTE != T_INFINITE` (R4). Log 9. -/
def tRxByte : Tick := BitVec.ofNat 32 tRxByteRaw.val

/-- One less than `N_RETRY`. Log 9. -/
opaque nRetryLess1 : Nat

/-- `N_RETRY`, OPEN with the one constraint `N_RETRY >= 1` (R4). Log 9. -/
def nRetry : Nat := nRetryLess1 + 1

/-- The free values: what a register holds where the spec says "unspecified" (R28, R33, R240;
93_implementation_defined.md U4, U6). Applied to the counter `freeCtr` of State. Logs 7, 8. -/
opaque freeValue (w : Nat) : Nat → BitVec w

end Sys2Proof.Config
end

