-- ==== Sys2Proof/Syntax.lean ====
section
/-! DEFINITION. The one type of instructions: one constructor per row of spec/opcode_table.json, and the slot
in which a table word stands. -/

namespace Sys2Proof

/-- One constructor per row of the opcode table: 26 host commands (R72), 16 wire bytes to the transport
(R80 to R82, R91), 5 classes of wire bytes from it (R83 to R85), 8 frame bytes (R86 to R89). -/
inductive Instr where
  -- host commands: the timer (40_timer.md)
  | tInit
  | tStart (timeout : Tick)
  | tStop
  | tReset
  | tState
  | tTicks
  | tElapsed (ref budget : Tick)
  -- host commands: byte level (41_phy_byte.md)
  | phSend (byte : Byte) (timeout : Tick)
  | phRecv (timeout : Tick)
  | phWait (byte : Byte) (timeout : Tick)
  | phWaitm (byte : Byte) (timeout : Tick)
  -- host commands: services (42_phy_services.md)
  | phInit
  | phReset
  | phStateq
  | phReq (req : BitVec 4)
  | phAck (kind : BitVec 2)
  | phDatareq (length : BitVec 6) (timeout : Tick)
  | phDatarcv
  | phGetstate
  | txbufWr (idx : BitVec 6) (byte : Byte)
  | rxbufRd (idx : BitVec 6)
  -- host commands: data link (43_datalink.md)
  | dlInit
  | dlSend (frameType addressType : BitVec 1) (priority : BitVec 2) (destination : Addr)
      (payloadLen : BitVec 4) (payload : List Byte)
  | dlRecv
  | dlSetaddr (addr : Addr)
  | dlGetaddr
  -- wire bytes, block to transport
  | wResetReq
  | wStateQuery
  | wActivateBusmonitor
  | wAckinfoBase
  | wAckAddressed
  | wAckBusy
  | wAckNack
  | wProductIdQuery
  | wActivateBusyMode
  | wDeactivateBusyMode
  | wSetMaxRetryCount
  | wActivateChecksum
  | wSetAddress
  | wDataStart
  | wDataContinue (i : BitVec 6)
  | wDataEnd (n : BitVec 6)
  -- wire bytes, transport to block
  | wResetIndication
  | wStateIndication (slaveCollision receiveError transmitError protocolError temperatureWarning : Bool)
  | wDataConfirmSuccess
  | wDataConfirmFailed
  | wDataConfirmOther (high : BitVec 4) (bit2 : Bool)
  -- frame bytes; `j` and `l` are positions in the frame, not bits of the byte
  | frControl (frameType : BitVec 1) (priority : BitVec 2)
  | frSrcHi (a : Byte)
  | frSrcLo (a : Byte)
  | frDstHi (d : Byte)
  | frDstLo (d : Byte)
  | frAddrlen (addressType : BitVec 1) (len : BitVec 4)
  | frPayload (j : BitVec 4) (b : Byte)
  | frChecksum (l : BitVec 4) (c : Byte)
  deriving DecidableEq, Repr

/-- Where a table word stands. The same byte is a row of several parts of the table (R81, R91, R249): the place
where it stands says which. DESIGN CHOICE of the model's form, log 2. -/
inductive Slot where
  /-- the host's command interface (R70, R72) -/
  | command
  /-- a request or acknowledgement byte to the transport (R80, R82) -/
  | txService
  /-- the marker before the first, an interior, the last frame byte (R81) -/
  | txStart
  | txContinue
  | txEnd
  /-- a byte received where `ph_reset`, `state_query`, `data_request` waits (R83, R84, R85) -/
  | rxReset
  | rxState
  | rxConfirm
  /-- a byte of a frame, by its place (R86) -/
  | frameControl
  | frameSrcHi
  | frameSrcLo
  | frameDstHi
  | frameDstLo
  | frameAddrlen
  | framePayload (j : BitVec 4)
  | frameChecksum (l : BitVec 4)
  deriving DecidableEq, Repr

end Sys2Proof
end

