-- ==== Sys2Proof/WellFormed.lean ====
section
/-! DEFINITION. Which instruction terms stand for a word of the table. Most operands have exactly the width of
their field, so that nothing out of range can be expressed (R71); the checks here are the ranges that are
narrower than the field. -/

namespace Sys2Proof

/-- The ranges of the operands that a width does not already give. -/
def Instr.wellFormed : Instr → Bool
  | .dlSend _ _ _ _ _ payload => payload.length == Config.maxPayload        -- R71: payload[0..14]
  | .wDataContinue i => decide (1 ≤ i.toNat ∧ i.toNat ≤ Config.maxFrame - 2) -- R81: 1 <= i <= n - 2
  | .wDataEnd n => decide (2 ≤ n.toNat ∧ n.toNat ≤ Config.maxFrame)          -- R81, R156
  | .wDataConfirmOther high bit2 => bit2 || (high != 0x8#4 && high != 0x0#4) -- R85: neither 0x8B nor 0x0B
  | .frPayload j _ => decide (j.toNat < Config.maxPayload)                   -- R86: at most 15 payload bytes
  -- R71, R72, R80 to R89: every value of the fields' widths is an operand
  | .tInit | .tStart _ | .tStop | .tReset | .tState | .tTicks | .tElapsed _ _ => true
  | .phSend _ _ | .phRecv _ | .phWait _ _ | .phWaitm _ _ => true
  | .phInit | .phReset | .phStateq | .phReq _ | .phAck _ | .phDatareq _ _ | .phDatarcv | .phGetstate => true
  | .txbufWr _ _ | .rxbufRd _ | .dlInit | .dlRecv | .dlSetaddr _ | .dlGetaddr => true
  | .wResetReq | .wStateQuery | .wActivateBusmonitor | .wAckinfoBase => true
  | .wAckAddressed | .wAckBusy | .wAckNack | .wProductIdQuery | .wActivateBusyMode => true
  | .wDeactivateBusyMode | .wSetMaxRetryCount | .wActivateChecksum | .wSetAddress | .wDataStart => true
  | .wResetIndication | .wStateIndication _ _ _ _ _ | .wDataConfirmSuccess | .wDataConfirmFailed => true
  | .frControl _ _ | .frSrcHi _ | .frSrcLo _ | .frDstHi _ | .frDstLo _ | .frAddrlen _ _ | .frChecksum _ _ => true

end Sys2Proof
end

