-- ==== Sys2Proof/Decode.lean ====
section
/-! DEFINITION. Decoding and encoding. The bytes of the wire and of the frame (R80 to R89), the decoder (total,
refusing by name), the encoder, and the reading of a row of spec/opcode_table.json given as a number. -/

namespace Sys2Proof

/-! ### The bytes of the wire and of the frame -/

/-- The marker before an interior frame byte, `DATA_CONT_BASE | i` (R81). -/
def dataContinueByte (i : BitVec 6) : Byte := Config.dataContBase ||| i.setWidth 8

/-- The marker before the last frame byte, `DATA_END_BASE | n` (R81). -/
def dataEndByte (n : BitVec 6) : Byte := Config.dataEndBase ||| n.setWidth 8

/-- A StateIndication, bits 7 to 3 the five status flags, bits 2 to 0 set (R84). -/
def stateIndicationByte (s r e t w : Bool) : Byte :=
  BitVec.ofBool s ++ BitVec.ofBool r ++ BitVec.ofBool e ++ BitVec.ofBool t ++ BitVec.ofBool w ++ 0b111#3

/-- A byte of the pattern `xxxx1x11`, which satisfies the confirm mask 0x0B (R85). -/
def dataConfirmOtherByte (high : BitVec 4) (bit2 : Bool) : Byte :=
  high ++ 0b1#1 ++ BitVec.ofBool bit2 ++ 0b11#2

/-- The control byte, `(frame_type << 7) | CTRL_FIXED | (priority << 2)` (R87). -/
def controlByte (frameType : BitVec 1) (priority : BitVec 2) : Byte :=
  (frameType.setWidth 8 <<< 7) ||| Config.ctrlFixed ||| (priority.setWidth 8 <<< 2)

/-- The address-type and length byte, `(address_type << 7) | payload_len` (R88). -/
def addrLenByte (addressType : BitVec 1) (len : BitVec 4) : Byte :=
  (addressType.setWidth 8 <<< 7) ||| len.setWidth 8

/-- On receive the control byte is valid: the fixed format bit is set, the reserved bits are zero (R87). -/
def controlValid (c : Byte) : Bool :=
  c &&& Config.ctrlFixed == Config.ctrlFixed && c &&& Config.ctrlReserved == 0#8

/-- `frame_type = control[7]` (R87). -/
def controlFrameType (c : Byte) : BitVec 1 := c.extractLsb' 7 1

/-- `priority = control[3:2]` (R87). -/
def controlPriority (c : Byte) : BitVec 2 := c.extractLsb' 2 2

/-- `address_type = B[5][7]` (R88). -/
def addrLenType (b : Byte) : BitVec 1 := b.extractLsb' 7 1

/-- `payload_len = B[5][3:0]`; bits 6 to 4 are not examined (R88). -/
def addrLenLen (b : Byte) : BitVec 4 := b.extractLsb' 0 4

/-! ### The decoder -/

/-- Why a word is no instruction. -/
inductive DecodeError where
  /-- an `op` that R72 does not list (R91 a) -/
  | illegalOp (op : Byte)
  /-- no request or acknowledgement byte of R80 -/
  | notServiceByte (b : Byte)
  /-- no marker of the slot (R81) -/
  | notMarker (b : Byte)
  /-- not the byte the wait accepts (R83, R84, R85) -/
  | notIndication (b : Byte)
  /-- a frame byte with a fixed bit wrong (R87, R88), or a payload place past the 15th -/
  | badFrameByte (b : Byte)
  deriving DecidableEq, Repr

/-- The fifteen payload bytes of a `DL_SEND` word, byte `i` at bit `32 + 8 i` (R71, format F; log 1). -/
def payloadOfNat : Nat → Nat → List Byte
  | 0, _ => []
  | k + 1, n => BitVec.ofNat 8 n :: payloadOfNat k (n / 256)

/-- Decode a host command (R70 to R72). Bits above a command's own fields are no part of it (log 1). -/
def decodeCommand (w : CmdWord) : Except DecodeError Instr :=
  let op : Byte := w.extractLsb' 0 8
  match op.toNat with
  | 0x00 => .ok .tInit
  | 0x01 => .ok (.tStart (w.extractLsb' 8 32))
  | 0x02 => .ok .tStop
  | 0x03 => .ok .tReset
  | 0x04 => .ok .tState
  | 0x05 => .ok .tTicks
  | 0x06 => .ok (.tElapsed (w.extractLsb' 8 32) (w.extractLsb' 40 32))
  | 0x10 => .ok (.phSend (w.extractLsb' 8 8) (w.extractLsb' 16 32))
  | 0x11 => .ok (.phRecv (w.extractLsb' 8 32))
  | 0x12 => .ok (.phWait (w.extractLsb' 8 8) (w.extractLsb' 16 32))
  | 0x13 => .ok (.phWaitm (w.extractLsb' 8 8) (w.extractLsb' 16 32))
  | 0x20 => .ok .phInit
  | 0x21 => .ok .phReset
  | 0x22 => .ok .phStateq
  | 0x23 => .ok (.phReq (w.extractLsb' 8 4))
  | 0x24 => .ok (.phAck (w.extractLsb' 8 2))
  | 0x25 => .ok (.phDatareq (w.extractLsb' 8 6) (w.extractLsb' 14 32))
  | 0x26 => .ok .phDatarcv
  | 0x27 => .ok .phGetstate
  | 0x28 => .ok (.txbufWr (w.extractLsb' 8 6) (w.extractLsb' 14 8))
  | 0x29 => .ok (.rxbufRd (w.extractLsb' 8 6))
  | 0x30 => .ok .dlInit
  | 0x31 => .ok (.dlSend (w.extractLsb' 8 1) (w.extractLsb' 9 1) (w.extractLsb' 10 2) (w.extractLsb' 12 16)
      (w.extractLsb' 28 4) (payloadOfNat 15 (w.toNat / 2 ^ 32)))
  | 0x32 => .ok .dlRecv
  | 0x33 => .ok (.dlSetaddr (w.extractLsb' 8 16))
  | 0x34 => .ok .dlGetaddr
  | _ => .error (.illegalOp op)

/-- Decode a request or acknowledgement byte (R80, R82, R91 d). -/
def decodeService (b : Byte) : Except DecodeError Instr :=
  match b.toNat with
  | 0x01 => .ok .wResetReq
  | 0x02 => .ok .wStateQuery
  | 0x05 => .ok .wActivateBusmonitor
  | 0x10 => .ok .wAckinfoBase
  | 0x11 => .ok .wAckAddressed
  | 0x12 => .ok .wAckBusy
  | 0x14 => .ok .wAckNack
  | 0x20 => .ok .wProductIdQuery
  | 0x21 => .ok .wActivateBusyMode
  | 0x22 => .ok .wDeactivateBusyMode
  | 0x24 => .ok .wSetMaxRetryCount
  | 0x25 => .ok .wActivateChecksum
  | 0x28 => .ok .wSetAddress
  | _ => .error (.notServiceByte b)

/-- Decode a byte in a slot of the wire or of a frame (R81, R83 to R88). -/
def decodeByte (slot : Slot) (b : Byte) : Except DecodeError Instr :=
  match slot with
  | .command => .error (.illegalOp b)
  | .txService => decodeService b
  | .txStart => if b = Config.dataStart then .ok .wDataStart else .error (.notMarker b)
  | .txContinue =>
      let i : BitVec 6 := b.extractLsb' 0 6
      if b = dataContinueByte i ∧ (Instr.wDataContinue i).wellFormed then .ok (.wDataContinue i)
      else .error (.notMarker b)
  | .txEnd =>
      let n : BitVec 6 := b.extractLsb' 0 6
      if b = dataEndByte n ∧ (Instr.wDataEnd n).wellFormed then .ok (.wDataEnd n)
      else .error (.notMarker b)
  | .rxReset => if b = 0x03#8 then .ok .wResetIndication else .error (.notIndication b)
  | .rxState =>
      if b &&& 0x07#8 = 0x07#8 then
        .ok (.wStateIndication (b.getLsbD 7) (b.getLsbD 6) (b.getLsbD 5) (b.getLsbD 4) (b.getLsbD 3))
      else .error (.notIndication b)
  | .rxConfirm =>
      if b = 0x8B#8 then .ok .wDataConfirmSuccess
      else if b = 0x0B#8 then .ok .wDataConfirmFailed
      else if b &&& 0x0B#8 = 0x0B#8 then .ok (.wDataConfirmOther (b.extractLsb' 4 4) (b.getLsbD 2))
      else .error (.notIndication b)
  | .frameControl =>
      if controlValid b then .ok (.frControl (controlFrameType b) (controlPriority b)) else .error (.badFrameByte b)
  | .frameSrcHi => .ok (.frSrcHi b)
  | .frameSrcLo => .ok (.frSrcLo b)
  | .frameDstHi => .ok (.frDstHi b)
  | .frameDstLo => .ok (.frDstLo b)
  | .frameAddrlen =>
      if b &&& 0x70#8 = 0#8 then .ok (.frAddrlen (addrLenType b) (addrLenLen b)) else .error (.badFrameByte b)
  | .framePayload j =>
      if (Instr.frPayload j b).wellFormed then .ok (.frPayload j b) else .error (.badFrameByte b)
  | .frameChecksum l => .ok (.frChecksum l b)

/-- Decode a word in its slot. A wire or frame word is its low byte. -/
def decode (slot : Slot) (w : CmdWord) : Except DecodeError Instr :=
  match slot with
  | .command => decodeCommand w
  | slot => decodeByte slot (w.extractLsb' 0 8)

/-! ### The encoder -/

/-- The slot an instruction's word stands in. -/
def Instr.slot : Instr → Slot
  | .tInit | .tStart _ | .tStop | .tReset | .tState | .tTicks | .tElapsed _ _ => .command
  | .phSend _ _ | .phRecv _ | .phWait _ _ | .phWaitm _ _ => .command
  | .phInit | .phReset | .phStateq | .phReq _ | .phAck _ | .phDatareq _ _ | .phDatarcv | .phGetstate => .command
  | .txbufWr _ _ | .rxbufRd _ => .command
  | .dlInit | .dlSend _ _ _ _ _ _ | .dlRecv | .dlSetaddr _ | .dlGetaddr => .command
  | .wResetReq | .wStateQuery | .wActivateBusmonitor | .wAckinfoBase => .txService
  | .wAckAddressed | .wAckBusy | .wAckNack | .wProductIdQuery | .wActivateBusyMode => .txService
  | .wDeactivateBusyMode | .wSetMaxRetryCount | .wActivateChecksum | .wSetAddress => .txService
  | .wDataStart => .txStart
  | .wDataContinue _ => .txContinue
  | .wDataEnd _ => .txEnd
  | .wResetIndication => .rxReset
  | .wStateIndication _ _ _ _ _ => .rxState
  | .wDataConfirmSuccess | .wDataConfirmFailed | .wDataConfirmOther _ _ => .rxConfirm
  | .frControl _ _ => .frameControl
  | .frSrcHi _ => .frameSrcHi
  | .frSrcLo _ => .frameSrcLo
  | .frDstHi _ => .frameDstHi
  | .frDstLo _ => .frameDstLo
  | .frAddrlen _ _ => .frameAddrlen
  | .frPayload j _ => .framePayload j
  | .frChecksum l _ => .frameChecksum l

/-- The number whose bytes, least significant first, are the payload (R71, format F; log 1). -/
def natOfPayload : List Byte → Nat
  | [] => 0
  | b :: bs => b.toNat + 256 * natOfPayload bs

/-- The word of an instruction as a number: `op` and the fields of R71 from bit 8 upward, or the byte of
R80 to R89. -/
def encodeNat : Instr → Nat
  | .tInit => 0x00
  | .tStart t => 0x01 + 2 ^ 8 * t.toNat
  | .tStop => 0x02
  | .tReset => 0x03
  | .tState => 0x04
  | .tTicks => 0x05
  | .tElapsed r b => 0x06 + 2 ^ 8 * r.toNat + 2 ^ 40 * b.toNat
  | .phSend b t => 0x10 + 2 ^ 8 * b.toNat + 2 ^ 16 * t.toNat
  | .phRecv t => 0x11 + 2 ^ 8 * t.toNat
  | .phWait b t => 0x12 + 2 ^ 8 * b.toNat + 2 ^ 16 * t.toNat
  | .phWaitm b t => 0x13 + 2 ^ 8 * b.toNat + 2 ^ 16 * t.toNat
  | .phInit => 0x20
  | .phReset => 0x21
  | .phStateq => 0x22
  | .phReq r => 0x23 + 2 ^ 8 * r.toNat
  | .phAck k => 0x24 + 2 ^ 8 * k.toNat
  | .phDatareq l t => 0x25 + 2 ^ 8 * l.toNat + 2 ^ 14 * t.toNat
  | .phDatarcv => 0x26
  | .phGetstate => 0x27
  | .txbufWr i b => 0x28 + 2 ^ 8 * i.toNat + 2 ^ 14 * b.toNat
  | .rxbufRd i => 0x29 + 2 ^ 8 * i.toNat
  | .dlInit => 0x30
  | .dlSend ft at_ pr d l p =>
      0x31 + 2 ^ 8 * ft.toNat + 2 ^ 9 * at_.toNat + 2 ^ 10 * pr.toNat + 2 ^ 12 * d.toNat + 2 ^ 28 * l.toNat
        + 2 ^ 32 * natOfPayload p
  | .dlRecv => 0x32
  | .dlSetaddr a => 0x33 + 2 ^ 8 * a.toNat
  | .dlGetaddr => 0x34
  | .wResetReq => 0x01
  | .wStateQuery => 0x02
  | .wActivateBusmonitor => 0x05
  | .wAckinfoBase => 0x10
  | .wAckAddressed => 0x11
  | .wAckBusy => 0x12
  | .wAckNack => 0x14
  | .wProductIdQuery => 0x20
  | .wActivateBusyMode => 0x21
  | .wDeactivateBusyMode => 0x22
  | .wSetMaxRetryCount => 0x24
  | .wActivateChecksum => 0x25
  | .wSetAddress => 0x28
  | .wDataStart => Config.dataStart.toNat
  | .wDataContinue i => (dataContinueByte i).toNat
  | .wDataEnd n => (dataEndByte n).toNat
  | .wResetIndication => 0x03
  | .wStateIndication s r e t w => (stateIndicationByte s r e t w).toNat
  | .wDataConfirmSuccess => 0x8B
  | .wDataConfirmFailed => 0x0B
  | .wDataConfirmOther high bit2 => (dataConfirmOtherByte high bit2).toNat
  | .frControl ft pr => (controlByte ft pr).toNat
  | .frSrcHi a => a.toNat
  | .frSrcLo a => a.toNat
  | .frDstHi d => d.toNat
  | .frDstLo d => d.toNat
  | .frAddrlen at_ l => (addrLenByte at_ l).toNat
  | .frPayload _ b => b.toNat
  | .frChecksum _ c => c.toNat

/-- The word of an instruction, to be read in `i.slot`. -/
def encode (i : Instr) : CmdWord := BitVec.ofNat 152 (encodeNat i)

/-- The byte of a wire or frame row. -/
def encodeByte (i : Instr) : Byte := BitVec.ofNat 8 (encodeNat i)

/-! ### Rows of the opcode table given as numbers -/

/-- Where a byte of the table stands when nothing but its value is given: a host command where R72 lists it, else
the wire row it can be, an exact row before a pattern. DESIGN CHOICE, log 2. -/
def tableSlot (b : Byte) : Slot :=
  if (decodeCommand (b.setWidth 152)).isOk then .command
  else if (decodeByte .txService b).isOk then .txService
  else if b = Config.dataStart then .txStart
  else if b = 0x8B#8 ∨ b = 0x0B#8 then .rxConfirm
  else if (decodeByte .rxState b).isOk then .rxState
  else if (decodeByte .rxConfirm b).isOk then .rxConfirm
  else if (decodeByte .txContinue b).isOk then .txContinue
  else if (decodeByte .txEnd b).isOk then .txEnd
  else .command

/-- The slot of a table word: a word with bits above the first byte is a command. -/
def tableWordSlot (w : Nat) : Slot :=
  if w < 256 then tableSlot (BitVec.ofNat 8 w) else .command

/-- The instruction the decoder reads from a row's word `w` of `nbits` bits, every bit above them zero. -/
def decodeTableWord (nbits w : Nat) : Option Instr :=
  (decode (tableWordSlot (w % 2 ^ nbits)) (BitVec.ofNat 152 (w % 2 ^ nbits))).toOption

end Sys2Proof
end

