-- ==== Sys2Proof/Machine/State.lean ====
section
/-! DEFINITION. The state of the block (10_state.md R20 to R34), the outside inputs it reacts to, the reasons a step
can stop, and the state after reset. -/

namespace Sys2Proof.Machine

/-- The physical-layer state (R20). -/
inductive PhState where
  | uninitialized | reset | normal | monitor | stopped
  deriving DecidableEq, Repr

/-- The timer state (R23). -/
inductive TimerState where
  | reset | running | paused
  deriving DecidableEq, Repr

/-- The ten error codes (R77). -/
inductive ErrCode where
  | none | init | timeout | request | response | dataConfirmFailed | state | frameError | addressError | busy
  deriving DecidableEq, Repr

/-- The physical-layer requests, a closed enumeration (R73). -/
inductive Req where
  | reset | stateQuery | activateBusMonitor | productIdQuery | activateBusyMode | deactivateBusyMode
  | setAddress | ackInfo | none
  deriving DecidableEq, Repr

/-- The acknowledgement kinds (R74). -/
inductive AckKind where
  | ack | busy | nack
  deriving DecidableEq, Repr

/-- The transport's answer to a send attempt (R56, R78). -/
inductive SendAnswer where
  | ok | busy | error
  deriving DecidableEq, Repr

/-- The transport's answer to a receive attempt (R56, R78). -/
inductive RecvAnswer where
  | ok (b : Byte) | busy | error
  deriving DecidableEq, Repr

/-- The transport's answer to its initialisation (R56, R78). -/
inductive InitAnswer where
  | ok | error
  deriving DecidableEq, Repr

/-- What comes from outside the engine, in the order in which it comes (R7, R56, R240; log 3). -/
inductive Input where
  /-- the host issues a command (R29) -/
  | command (w : CmdWord)
  /-- one tick of the tick source (R112) -/
  | tick
  /-- the hardware reset event (R240) -/
  | hwReset
  /-- the answer to the next send attempt -/
  | tx (a : SendAnswer)
  /-- the answer to the next receive attempt -/
  | rx (a : RecvAnswer)
  /-- the answer to the next transport initialisation -/
  | init (a : InitAnswer)
  deriving DecidableEq, Repr

/-- The position inside the latched command's procedure (R29): which transport attempt is next, with the loop
indices `k` of `dl_init`, `i` and `n` of `data_request`, `n` of `data_receive` and the operands the procedure
was called with. Every procedure of 41_phy_byte.md to 43_datalink.md is idle or at an attempt between engine
steps (R7). -/
inductive Pos where
  /-- no command in progress -/
  | idle
  /-- `PH_SEND`, at its send attempt (R131) -/
  | sendOne (b : Byte)
  /-- `PH_RECV`, at its receive attempt (R132) -/
  | recvOne
  /-- `PH_WAIT`, at its receive attempt (R133) -/
  | waitByte (expected : Byte)
  /-- `PH_WAITM`, at its receive attempt (R134) -/
  | waitMask (mask : Byte)
  /-- `ph_init`, at `Transport.init()`, round `k` of `dl_init` (R151, R187) -/
  | transportInit (k : Nat)
  /-- `ph_reset`, sending 0x01, round `k` of `dl_init` (R152, R187) -/
  | resetSend (k : Nat)
  /-- `ph_reset`, waiting for 0x03 (R152) -/
  | resetWait (k : Nat)
  /-- `state_query`, sending 0x02 (R153) -/
  | querySend
  /-- `state_query`, waiting under mask 0x07 (R153) -/
  | queryWait
  /-- `ph_request`, sending the wire byte `w` of request `r` (R154) -/
  | reqSend (r : Req) (w : Byte)
  /-- `ph_ack`, sending its byte (R155) -/
  | ackSend (kind : AckKind)
  /-- `data_request(n, timeout)`, sending the marker before frame byte `i` (R156) -/
  | dataMark (n : Nat) (timeout : Tick) (i : Nat)
  /-- `data_request(n, timeout)`, sending frame byte `i` (R156) -/
  | dataByte (n : Nat) (timeout : Tick) (i : Nat)
  /-- `data_request`, waiting for the confirm under mask 0x0B (R156) -/
  | dataConfirm
  /-- `data_receive`, receiving byte `n` (R157) -/
  | dataRecv (n : Nat)
  deriving DecidableEq, Repr

/-- A byte buffer of the block (R50): index and byte, indices strictly rising, no entry equal to `unwritten`. -/
abbrev Memory := List Host.Cell

/-- What a buffer byte that no entry lists reads as. The spec leaves the buffers unspecified after reset (R33):
DESIGN CHOICE, unsafe, log 6. -/
def unwritten : Byte := 0x00#8

/-- A step can stop with a fault: never. The block has no traps (R210); every error is a code in `RES_ERR`. So
there is no constructor, nothing raises one, and there is nothing to call safe or unsafe. -/
inductive Fault where
  deriving DecidableEq, Repr

/-- Why the model gives no step. -/
inductive Refusal where
  /-- raised by `exec` for an instruction that has no meaning yet (none is left); safe -/
  | notModelled (mnemonic : String)
  /-- raised by every host command, and by `step`, when a command is issued while `eng_busy = 1`: the spec gives it
  no step (R29, R251, 93_implementation_defined.md U1); safe, log 13 -/
  | commandWhileBusy
  deriving DecidableEq, Repr

/-- The state of the block. -/
structure State where
  /-- `ph_state` (R20) -/
  phState : PhState
  /-- `busy` (R21) -/
  busy : Bool
  /-- `local_addr` (R22) -/
  localAddr : Addr
  /-- `timer_state` (R23) -/
  timerState : TimerState
  /-- `ticks` (R24) -/
  ticks : Tick
  /-- `TXBUF` (R25) -/
  txBuf : Memory
  /-- `tx_len` (R25) -/
  txLen : BitVec 6
  /-- `RXBUF` (R26) -/
  rxBuf : Memory
  /-- `rx_len` (R26) -/
  rxLen : BitVec 6
  /-- `RES_ERR` (R27), a code of R77 -/
  resErr : BitVec 4
  /-- `RES_BYTE` (R27) -/
  resByte : Byte
  /-- `RES_LEN` (R27) -/
  resLen : BitVec 6
  /-- `RES_TICKS` (R27) -/
  resTicks : Tick
  /-- `RES_TSTATE` (R27), a code of R76 -/
  resTstate : BitVec 2
  /-- `RES_PHSTATE` (R27), a code of R75 -/
  resPhstate : BitVec 3
  /-- `RES_FLAG` (R27) -/
  resFlag : BitVec 1
  /-- `RES_REF` (R27) -/
  resRef : Tick
  /-- `RES_BUDGET` (R27) -/
  resBudget : Tick
  /-- `RES_ADDR` (R27) -/
  resAddr : Addr
  /-- `OUT_FT` (R28) -/
  outFt : BitVec 1
  /-- `OUT_PRIO` (R28) -/
  outPrio : BitVec 2
  /-- `OUT_SRC` (R28) -/
  outSrc : Addr
  /-- `OUT_DST` (R28) -/
  outDst : Addr
  /-- `OUT_AT` (R28) -/
  outAt : BitVec 1
  /-- `OUT_LEN` (R28) -/
  outLen : BitVec 4
  /-- `OUT_PAYLOAD[0..14]` (R28), fifteen bytes -/
  outPayload : List Byte
  /-- `eng_busy` (R29) -/
  engBusy : Bool
  /-- the latched command (R29) -/
  latched : Option Instr
  /-- the position inside its procedure (R29) -/
  pos : Pos
  /-- `poll_ref` (R29, R119) -/
  pollRef : Tick
  /-- `poll_budget` (R29, R119) -/
  pollBudget : Tick
  /-- `TXS`, the recorded bytes the transport has taken, oldest first (R31) -/
  txs : List Byte
  /-- `RXS`, the recorded bytes the transport has handed over, oldest first (R31) -/
  rxs : List Byte
  /-- the model's own: what will come from outside, oldest first (log 3) -/
  inputs : List Input
  /-- the model's own: how many free values have been used (log 8) -/
  freeCtr : Nat
  deriving DecidableEq, Repr

/-- The state right after reset (R33). Where R33 says "unspecified" the value is DESIGN CHOICE (logs 5, 6, 8). -/
def State.reset : State where
  phState := .uninitialized
  busy := false
  localAddr := Config.localAddrReset
  timerState := .reset
  ticks := 0#32
  txBuf := []
  txLen := 0#6
  rxBuf := []
  rxLen := 0#6
  resErr := 0#4
  resByte := 0#8
  resLen := 0#6
  resTicks := 0#32
  resTstate := 0#2
  resPhstate := 0#3
  resFlag := 0#1
  resRef := 0#32
  resBudget := 0#32
  resAddr := 0#16
  outFt := 0#1
  outPrio := 0#2
  outSrc := 0#16
  outDst := 0#16
  outAt := 0#1
  outLen := 0#4
  outPayload := List.replicate 15 0#8
  engBusy := false
  latched := none
  pos := .idle
  pollRef := 0#32
  pollBudget := 0#32
  txs := []
  rxs := []
  inputs := []
  freeCtr := 0

end Sys2Proof.Machine
end

