-- ==== Sys2Proof/Machine/Operands.lean ====
section
/-! DEFINITION. The operand forms and the codes of the enumerations (30_encoding.md R73 to R77, R82): what the
numbers of a command's fields stand for, and the numbers the result registers hold. -/

namespace Sys2Proof.Machine

/-- The codes of `ph_state` (R75). -/
def PhState.code : PhState → BitVec 3
  | .uninitialized => 0#3
  | .reset => 1#3
  | .normal => 2#3
  | .monitor => 3#3
  | .stopped => 4#3

/-- The codes of `timer_state` (R76). -/
def TimerState.code : TimerState → BitVec 2
  | .reset => 0#2
  | .running => 1#2
  | .paused => 2#2

/-- The error codes (R77). -/
def ErrCode.code : ErrCode → BitVec 4
  | .none => 0#4
  | .init => 1#4
  | .timeout => 2#4
  | .request => 3#4
  | .response => 4#4
  | .dataConfirmFailed => 5#4
  | .state => 6#4
  | .frameError => 7#4
  | .addressError => 8#4
  | .busy => 9#4

/-- The request a `req` field stands for; codes 9 to 15 are treated exactly as `None` (R73). -/
def Req.ofCode (c : BitVec 4) : Req :=
  match c.toNat with
  | 0 => .reset
  | 1 => .stateQuery
  | 2 => .activateBusMonitor
  | 3 => .productIdQuery
  | 4 => .activateBusyMode
  | 5 => .deactivateBusyMode
  | 6 => .setAddress
  | 7 => .ackInfo
  | _ => .none

/-- `wire(req)`: the one wire byte of a request, or `invalid` (R73). -/
def Req.wire : Req → Option Byte
  | .reset => some 0x01#8
  | .stateQuery => some 0x02#8
  | .activateBusMonitor => some 0x05#8
  | .productIdQuery => some 0x20#8
  | .activateBusyMode => some 0x21#8
  | .deactivateBusyMode => some 0x22#8
  | .setAddress => some 0x28#8
  | .ackInfo => some Config.ackBase
  | .none => Option.none

/-- The acknowledgement a `kind` field stands for; 3 is illegal (R74). -/
def AckKind.ofCode (c : BitVec 2) : Option AckKind :=
  match c.toNat with
  | 0 => some .ack
  | 1 => some .busy
  | 2 => some .nack
  | _ => none

/-- The `kind` code of an acknowledgement (R74). -/
def AckKind.code : AckKind → BitVec 2
  | .ack => 0#2
  | .busy => 1#2
  | .nack => 2#2

/-- The byte of an acknowledgement, `ACK_BASE | (1 << kind)` (R82, R155). -/
def AckKind.byte (k : AckKind) : Byte := Config.ackBase ||| (1#8 <<< k.code.toNat)

/-- A buffer index operand is in range (R53). -/
def indexInRange (idx : BitVec 6) : Bool := decide (idx.toNat < Config.maxFrame)

/-- A `length` operand is in range (R156). -/
def lengthInRange (length : BitVec 6) : Bool := decide (2 ≤ length.toNat ∧ length.toNat ≤ Config.maxFrame)

/-- The marker sent before frame byte `i` of `n` (R81, R156): Start before the first, End before the last,
Continue before the others. -/
def dataMarker (n i : Nat) : Byte :=
  if i = 0 then Config.dataStart
  else if i + 1 = n then dataEndByte (BitVec.ofNat 6 n)
  else dataContinueByte (BitVec.ofNat 6 i)

/-- The slot of the marker before frame byte `i` of `n` (R81). -/
def dataMarkerSlot (n i : Nat) : Slot :=
  if i = 0 then .txStart else if i + 1 = n then .txEnd else .txContinue

end Sys2Proof.Machine
end

