-- ==== Sys2Proof/Machine/Flags.lean ====
section
/-! DEFINITION. The predicates and folds of the block: the elapsed predicate that gives `RES_FLAG` (R117), the byte
tests of the waits (R133, R134), the classes of a confirm (R156), the vertical parity (R180), the verdict on a
received frame (R185) and the mapping of codes (R184). -/

namespace Sys2Proof.Machine

/-- `has_elapsed(ref, budget)` at counter value `ticks`: flag, new reference, new budget (R117, R118). -/
def hasElapsed (ticks ref budget : Tick) : Bool × Tick × Tick :=
  if budget = Config.tInfinite then (false, ref, budget)
  else if budget ≤ ticks - ref then (true, ref, budget)
  else (false, ticks, budget - (ticks - ref))

/-- `(b & mask) = mask` (R134). -/
def maskMatches (mask b : Byte) : Bool := b &&& mask == mask

/-- What the byte accepted by the confirm wait of `data_request` means (R85, R156). -/
def classifyConfirm (b : Byte) : ErrCode :=
  if b = 0x8B#8 then .none
  else if b = 0x0B#8 then .dataConfirmFailed
  else .response

/-- The vertical parity of a list of bytes; the rule asks for at least one (R180). -/
def parity : List Byte → Byte
  | [] => 0#8
  | b :: bs => bs.foldl (fun p x => p ^^^ x) b

/-- `map_dl`: a physical result at link level (R184). -/
def mapDl : ErrCode → ErrCode
  | .none => .none
  | .dataConfirmFailed => .dataConfirmFailed
  | .init | .timeout | .request | .response | .state | .frameError | .addressError | .busy => .timeout

/-- What the checks of `receive_and_parse` decide (R185): a code with no acknowledgement, or an acknowledgement. -/
inductive Verdict where
  | silent (e : ErrCode)
  | answer (kind : AckKind)
  deriving DecidableEq, Repr

/-- The code `receive_and_parse` returns after each acknowledgement it sends (R185 steps 6 to 9). -/
def ackResult : AckKind → ErrCode
  | .nack => .frameError
  | .busy => .busy
  | .ack => .none

/-- Steps 2 to 9 of `receive_and_parse` on the received bytes `f`, in exactly this order (R185, R214). -/
def frameVerdict (f : List Byte) (localAddr : Addr) (busy : Bool) : Verdict :=
  let n := f.length
  let at_ (i : Nat) : Byte := f.getD i 0#8
  if n < Config.minFrame then .silent .frameError
  else if !controlValid (at_ 0) then .silent .frameError
  else if controlFrameType (at_ 0) ≠ Config.ftStandard then .silent .frameError
  else if at_ 3 ++ at_ 4 ≠ localAddr then .silent .addressError
  else if parity (f.take (n - 1)) ≠ at_ (n - 1) then .answer .nack
  else if (addrLenLen (at_ 5)).toNat ≠ n - 7 then .answer .nack
  else if busy then .answer .busy
  else .answer .ack

end Sys2Proof.Machine
end

