-- ==== Sys2Proof/Machine/Ops.lean ====
section
/-! DEFINITION. The named operations over buffers, streams, timer and engine. What another machine does by taking an
exception this block does by `complete` (R210): one shared operation, the only way a command ends. -/

namespace Sys2Proof.Machine

/-! ### Buffers (R50 to R54) -/

/-- Read one byte of a buffer. -/
def Memory.read : Memory → Nat → Byte
  | [], _ => unwritten
  | (k, v) :: m, a => if k = a then v else Memory.read m a

/-- Write one byte of a buffer, keeping the canonical form. -/
def Memory.write : Memory → Nat → Byte → Memory
  | [], a, b => if b = unwritten then [] else [(a, b)]
  | (k, v) :: m, a, b =>
    if a < k then if b = unwritten then (k, v) :: m else (a, b) :: (k, v) :: m
    else if a = k then if b = unwritten then m else (a, b) :: m
    else (k, v) :: Memory.write m a b

/-- The canonical form: indices strictly rising, no entry equal to what an unlisted byte reads as. -/
abbrev Memory.wf (m : Memory) : Prop :=
  m.Pairwise (fun x y => x.1 < y.1) ∧ ∀ c ∈ m, c.2 ≠ unwritten

/-- Every entry lies in a buffer of `n` bytes. -/
abbrev Memory.within (n : Nat) (m : Memory) : Prop := ∀ c ∈ m, c.1 < n

/-- The first `n` bytes of a buffer, `B[0..n-1]` (R5). -/
def Memory.first (m : Memory) (n : Nat) : List Byte := (List.range n).map (Memory.read m)

/-- The buffer whose byte `i` is the free value number `c + i` (U4). -/
def Memory.free (c : Nat) : Nat → Memory
  | 0 => []
  | n + 1 => Memory.write (Memory.free c n) n (Config.freeValue 8 (c + n))

/-- `TXBUF[i] <- b` (R160, R182). -/
def State.writeTx (s : State) (i : Nat) (b : Byte) : State := { s with txBuf := Memory.write s.txBuf i b }

/-- `RXBUF[i] <- b` (R157). -/
def State.writeRx (s : State) (i : Nat) (b : Byte) : State := { s with rxBuf := Memory.write s.rxBuf i b }

/-! ### Streams (R31, R54, R56) -/

/-- What will come from outside, with some of it used up (log 3). -/
def State.setInputs (s : State) (is : List Input) : State := { s with inputs := is }

/-- The transport has taken `b`. -/
def State.pushTx (s : State) (b : Byte) : State := { s with txs := s.txs ++ [b] }

/-- The transport has handed over `b`. -/
def State.pushRx (s : State) (b : Byte) : State := { s with rxs := s.rxs ++ [b] }

/-! ### The timer (40_timer.md) -/

/-- `timer_init` (R110). -/
def State.timerInit (s : State) : State := { s with timerState := .reset, ticks := 0#32 }

/-- `timer_start`; the operand is stored nowhere by the timer (R111). -/
def State.timerStart (s : State) : State := { s with timerState := .running, ticks := 0#32 }

/-- `timer_stop`, without its value (R113). -/
def State.timerStop (s : State) : State := { s with timerState := .paused }

/-- The tick event (R112). -/
def State.tickEvent (s : State) : State :=
  match s.timerState with
  | .running => { s with ticks := s.ticks + 1#32 }
  | .reset | .paused => s

/-- `poll_begin` (R119). -/
def State.pollBegin (s : State) (timeout : Tick) : State :=
  { s.timerStart with pollRef := 0#32, pollBudget := timeout }

/-- `poll_expired`: the flag (R119). -/
def State.pollFlag (s : State) : Bool := (hasElapsed s.ticks s.pollRef s.pollBudget).1

/-- `poll_expired`: what it leaves in the scratch registers (R119). -/
def State.pollUpdate (s : State) : State :=
  { s with pollRef := (hasElapsed s.ticks s.pollRef s.pollBudget).2.1
           pollBudget := (hasElapsed s.ticks s.pollRef s.pollBudget).2.2 }

/-- Begin a wait of `timeout` ticks at a position: `poll_begin`, then the attempt is next (R130). -/
def State.beginWait (s : State) (timeout : Tick) (p : Pos) : State := { s.pollBegin timeout with pos := p }

/-! ### Completion (R6, R29, R210, R215) -/

/-- `complete(E)`: `RES_ERR <- E; eng_busy <- 0`. The engine is idle again, with no command latched. -/
def State.complete (s : State) (e : ErrCode) : State :=
  { s with resErr := e.code, engBusy := false, latched := none, pos := .idle }

/-- An illegal `op` completes at once with `Request` and changes nothing else (R91 a). -/
def State.illegalCommand (s : State) : State := s.complete .request

/-- Issue: `eng_busy <- 1`, the command is latched (R29, R61). -/
def State.latch (s : State) (i : Instr) : State := { s with engBusy := true, latched := some i }

/-! ### The output registers of `DL_RECV` (R28) -/

/-- Fifteen payload bytes, of which those from `l` upward are the free values numbered from `c` (R28). -/
def payloadWithFree (payload : List Byte) (c : Nat) : List Byte :=
  payload.take 15 ++ (List.range (15 - payload.length)).map (fun j => Config.freeValue 8 (c + payload.length + j))

/-- The `OUT_*` registers become unspecified (R28, U6): each a free value. Log 8. -/
def State.outUnspecified (s : State) : State :=
  { s with
    outFt := Config.freeValue 1 (s.freeCtr + 15)
    outPrio := Config.freeValue 2 (s.freeCtr + 16)
    outSrc := Config.freeValue 16 (s.freeCtr + 17)
    outDst := Config.freeValue 16 (s.freeCtr + 18)
    outAt := Config.freeValue 1 (s.freeCtr + 19)
    outLen := Config.freeValue 4 (s.freeCtr + 20)
    outPayload := payloadWithFree [] s.freeCtr
    freeCtr := s.freeCtr + 21 }

/-- The fields of the received frame `f` go to the `OUT_*` registers; `OUT_PAYLOAD[i]` for `i >= OUT_LEN` is
unspecified (R28, R185 step 9). -/
def State.outFields (s : State) (f : List Byte) : State :=
  let at_ (i : Nat) : Byte := f.getD i 0#8
  let l := addrLenLen (at_ 5)
  { s with
    outFt := controlFrameType (at_ 0)
    outPrio := controlPriority (at_ 0)
    outSrc := at_ 1 ++ at_ 2
    outDst := at_ 3 ++ at_ 4
    outAt := addrLenType (at_ 5)
    outLen := l
    outPayload := payloadWithFree ((f.drop 6).take l.toNat) s.freeCtr
    freeCtr := s.freeCtr + 21 }

/-! ### Hardware reset (R240) -/

/-- The hardware reset event: every register R33 gives a value takes it, the command in progress is abandoned without
completing, and what R33 calls unspecified becomes a free value (log 7). The streams and what is outside stay. -/
def State.hardwareReset (s : State) : State :=
  { s.outUnspecified with
    phState := .uninitialized
    busy := false
    localAddr := Config.localAddrReset
    timerState := .reset
    ticks := 0#32
    txBuf := Memory.free (s.freeCtr + 32) Config.maxFrame
    txLen := 0#6
    rxBuf := Memory.free (s.freeCtr + 64) Config.maxFrame
    rxLen := 0#6
    resErr := ErrCode.none.code
    resByte := Config.freeValue 8 (s.freeCtr + 96)
    resLen := Config.freeValue 6 (s.freeCtr + 97)
    resTicks := Config.freeValue 32 (s.freeCtr + 98)
    resTstate := Config.freeValue 2 (s.freeCtr + 99)
    resPhstate := Config.freeValue 3 (s.freeCtr + 100)
    resFlag := Config.freeValue 1 (s.freeCtr + 101)
    resRef := Config.freeValue 32 (s.freeCtr + 102)
    resBudget := Config.freeValue 32 (s.freeCtr + 103)
    resAddr := Config.freeValue 16 (s.freeCtr + 104)
    engBusy := false
    latched := none
    pos := .idle
    pollRef := Config.freeValue 32 (s.freeCtr + 105)
    pollBudget := Config.freeValue 32 (s.freeCtr + 106)
    freeCtr := s.freeCtr + 107 }

end Sys2Proof.Machine
end

