-- ==== Sys2Proof/Machine/Engine.lean ====
section
/-! DEFINITION. The engine: the procedures of 41_phy_byte.md, 42_phy_services.md and 43_datalink.md cut at their
transport attempts (R7, R130). `enter…` runs a procedure from its start to its first attempt or its return;
`return…` is what the procedure's caller does with its result; `afterSend`, `afterReceive`, `afterDeadline` run on
from the end of one wait to the next attempt or to completion. The caller of a procedure is known by the latched
command. -/

namespace Sys2Proof.Machine

/-! ### Results that go back to a caller -/

/-- `check_state` fails (R150). -/
def State.uninitialized (s : State) : Bool := s.phState == .uninitialized

/-- `ph_reset` from its start; there is no state check (R152). -/
def enterPhReset (k : Nat) (s : State) : State :=
  ({ s with phState := .reset } : State).beginWait Config.tSvc (.resetSend k)

/-- `ph_init` up to `Transport.init()` (R151). -/
def enterPhInit (k : Nat) (s : State) : State :=
  { ({ s with phState := .uninitialized, busy := false } : State).timerInit with pos := .transportInit k }

/-- `ph_reset` returns `e`: to `dl_init`, which goes round again while it may (R187), or to the host (R152, R154). -/
def returnPhReset (k : Nat) (e : ErrCode) (s : State) : State :=
  match s.latched with
  | some .dlInit =>
    if e = .none then s.complete .none
    else if k + 1 < Config.nRetry then enterPhReset (k + 1) s
    else s.complete .init
  | _ => s.complete e

/-- `ph_init` returns `e`: to `dl_init` (R187), or to the host (R151). -/
def returnPhInit (k : Nat) (e : ErrCode) (s : State) : State :=
  match s.latched with
  | some .dlInit =>
    if e = .none then enterPhReset 0 s
    else if k + 1 < Config.nRetry then enterPhInit (k + 1) s
    else s.complete .init
  | _ => s.complete e

/-- `data_request` returns `e`: to `build_and_send` (R183, R184), or to the host (R156). -/
def returnDataRequest (e : ErrCode) (s : State) : State :=
  match s.latched with
  | some (.dlSend _ _ _ _ _ _) => s.complete (mapDl e)
  | _ => s.complete e

/-- The received bytes, `RXBUF[0..rx_len-1]` (R26). -/
def State.received (s : State) : List Byte := Memory.first s.rxBuf s.rxLen.toNat

/-- `DL_RECV` ends with `e`: the output registers, `RES_LEN <- rx_len`, completion (R185, R28). -/
def finishDlRecv (e : ErrCode) (s : State) : State :=
  let s' := if e = .none then s.outFields s.received else s.outUnspecified
  ({ s' with resLen := s.rxLen } : State).complete e

/-- `ph_ack(kind)` returns `e`: to `receive_and_parse`, which ignores `e` (R185), or to the host (R155). -/
def returnPhAck (kind : AckKind) (e : ErrCode) (s : State) : State :=
  match s.latched with
  | some .dlRecv => finishDlRecv (ackResult kind) s
  | _ => s.complete e

/-- `ph_ack(kind)` from its start, for a legal kind (R155). -/
def enterPhAck (kind : AckKind) (s : State) : State :=
  if s.uninitialized then returnPhAck kind .state s
  else s.beginWait Config.tAck (.ackSend kind)

/-- Steps 2 to 9 of `receive_and_parse` (R185). -/
def parseFrame (s : State) : State :=
  match frameVerdict s.received s.localAddr s.busy with
  | .silent e => finishDlRecv e s
  | .answer kind => enterPhAck kind s

/-- `data_receive` returns `e`: to `receive_and_parse` (R185 step 1), or to the host (R157). -/
def returnDataReceive (e : ErrCode) (s : State) : State :=
  match s.latched with
  | some .dlRecv => if e = .none then parseFrame s else finishDlRecv (mapDl e) s
  | _ => (if e = .state then s else { s with resLen := s.rxLen } : State).complete e

/-- The loop of `data_receive` ends with `n` bytes stored (R157). -/
def endDataReceive (n : Nat) (s : State) : State :=
  returnDataReceive (if n = 0 then .timeout else .none) { s with rxLen := BitVec.ofNat 6 n }

/-- `data_receive` from its start (R157). -/
def enterDataReceive (s : State) : State :=
  if s.uninitialized then returnDataReceive .state s
  else s.beginWait Config.tRxByte (.dataRecv 0)

/-- `data_request(n, timeout)` from its start (R156): state check, then length check, then the Start marker. -/
def enterDataRequest (n : BitVec 6) (timeout : Tick) (s : State) : State :=
  if s.uninitialized then returnDataRequest .state s
  else if !lengthInRange n then returnDataRequest .request s
  else s.beginWait timeout (.dataMark n.toNat timeout 0)

/-- `state_query` from its start (R153). -/
def enterStateQuery (s : State) : State :=
  if s.uninitialized then s.complete .state
  else s.beginWait Config.tSvc .querySend

/-- `ph_request(req)` from its start (R154): invalid request, then the two requests with procedures of their own,
then the state check. -/
def enterPhRequest (r : Req) (s : State) : State :=
  match r, r.wire with
  | _, none => s.complete .request
  | .reset, some _ => enterPhReset 0 s
  | .stateQuery, some _ => enterStateQuery s
  | r, some w =>
    if s.uninitialized then s.complete .state
    else s.beginWait Config.tSvc (.reqSend r w)

/-- What a request does when its byte has been sent (R154). -/
def requestEffect (r : Req) (s : State) : State :=
  match r with
  | .activateBusMonitor => { s with phState := .monitor }
  | .activateBusyMode => { s with busy := true }
  | .deactivateBusyMode => { s with busy := false }
  | .reset | .stateQuery | .productIdQuery | .setAddress | .ackInfo | .none => s

/-! ### One engine step -/

/-- The kinds of transport attempt (R56). -/
inductive Attempt where
  | send | receive | init
  deriving DecidableEq, Repr

/-- The attempt a position is at. -/
def Pos.attempt : Pos → Option Attempt
  | .idle => none
  | .transportInit _ => some .init
  | .sendOne _ | .resetSend _ | .querySend | .reqSend _ _ | .ackSend _ => some .send
  | .dataMark _ _ _ | .dataByte _ _ _ => some .send
  | .recvOne | .waitByte _ | .waitMask _ | .resetWait _ | .queryWait | .dataConfirm | .dataRecv _ => some .receive

/-- The byte a send position hands to `Transport.send` (R131, R152 to R156). -/
def Pos.sendByte (p : Pos) (txBuf : Memory) : Option Byte :=
  match p with
  | .sendOne b => some b
  | .resetSend _ => some 0x01#8
  | .querySend => some 0x02#8
  | .reqSend _ w => some w
  | .ackSend kind => some kind.byte
  | .dataMark n _ i => some (dataMarker n i)
  | .dataByte _ _ i => some (txBuf.read i)
  | .idle | .transportInit _ => none
  | .recvOne | .waitByte _ | .waitMask _ | .resetWait _ | .queryWait | .dataConfirm | .dataRecv _ => none

/-- Whether the wait at a receive position accepts a byte (R132 to R134, R152, R153, R156, R157). -/
def Pos.accepts (p : Pos) (b : Byte) : Bool :=
  match p with
  | .recvOne | .dataRecv _ => true
  | .waitByte expected => b == expected
  | .waitMask mask => maskMatches mask b
  | .resetWait _ => b == 0x03#8
  | .queryWait => maskMatches 0x07#8 b
  | .dataConfirm => maskMatches 0x0B#8 b
  | .idle | .transportInit _ | .sendOne _ | .resetSend _ | .querySend | .reqSend _ _ | .ackSend _ => false
  | .dataMark _ _ _ | .dataByte _ _ _ => false

/-- `send_data` at position `p` has returned: `None` when `ok`, else `Timeout` (R131, R152 to R156). -/
def afterSend (p : Pos) (ok : Bool) (s : State) : State :=
  match p with
  | .sendOne _ => s.complete (if ok then .none else .timeout)
  | .resetSend k => if ok then s.beginWait Config.tSvc (.resetWait k) else returnPhReset k .request s
  | .querySend => if ok then s.beginWait Config.tSvc .queryWait else s.complete .request
  | .reqSend r _ => if ok then (requestEffect r s).complete .none else s.complete .request
  | .ackSend kind => returnPhAck kind (if ok then .none else .request) s
  | .dataMark n timeout i =>
    if ok then s.beginWait timeout (.dataByte n timeout i) else returnDataRequest .request s
  | .dataByte n timeout i =>
    if ok then
      if i + 1 < n then s.beginWait timeout (.dataMark n timeout (i + 1)) else s.beginWait timeout .dataConfirm
    else returnDataRequest .request s
  | .idle | .transportInit _ => s
  | .recvOne | .waitByte _ | .waitMask _ | .resetWait _ | .queryWait | .dataConfirm | .dataRecv _ => s

/-- The receiving wait at position `p` has accepted `b` (R132 to R134, R152, R153, R156, R157). -/
def afterReceive (p : Pos) (b : Byte) (s : State) : State :=
  match p with
  | .recvOne => ({ s with resByte := b } : State).complete .none
  | .waitByte _ => s.complete .none
  | .waitMask _ => ({ s with resByte := b } : State).complete .none
  | .resetWait k => returnPhReset k .none { s with phState := .normal }
  | .queryWait => ({ s with resByte := b } : State).complete .none
  | .dataConfirm => returnDataRequest (classifyConfirm b) s
  | .dataRecv n =>
    if n + 1 < Config.maxFrame then (s.writeRx n b).beginWait Config.tRxByte (.dataRecv (n + 1))
    else endDataReceive (n + 1) (s.writeRx n b)
  | .idle | .transportInit _ | .sendOne _ | .resetSend _ | .querySend | .reqSend _ _ | .ackSend _ => s
  | .dataMark _ _ _ | .dataByte _ _ _ => s

/-- The receiving wait at position `p` has reached its deadline (R132 to R134, R152, R153, R156, R157). -/
def afterDeadline (p : Pos) (s : State) : State :=
  match p with
  | .recvOne => s.complete .timeout
  | .waitByte _ => s.complete .response
  | .waitMask _ => s.complete .response
  | .resetWait k => returnPhReset k .timeout s
  | .queryWait => s.complete .timeout
  | .dataConfirm => returnDataRequest .timeout s
  | .dataRecv n => endDataReceive n s
  | .idle | .transportInit _ | .sendOne _ | .resetSend _ | .querySend | .reqSend _ _ | .ackSend _ => s
  | .dataMark _ _ _ | .dataByte _ _ _ => s

/-- One iteration of `send_data` with the transport's answer (R130, R131): `Ok` ends the wait with no deadline
check; `Busy` and `Error` lead to the check. -/
def sendStep (a : SendAnswer) (s : State) : State :=
  match s.pos.sendByte s.txBuf with
  | none => s
  | some b =>
    match a with
    | .ok => afterSend s.pos true (s.pushTx b)
    | .busy | .error => if s.pollFlag then afterSend s.pos false s.pollUpdate else s.pollUpdate

/-- One iteration of a receiving wait with the transport's answer (R130, R132 to R134): an accepted byte ends the
wait; any other byte is consumed and lost; then the deadline is checked. -/
def receiveStep (a : RecvAnswer) (s : State) : State :=
  let missed (s : State) : State :=
    if s.pollFlag then afterDeadline s.pos s.pollUpdate else s.pollUpdate
  match a with
  | .ok b => if s.pos.accepts b then afterReceive s.pos b (s.pushRx b) else missed (s.pushRx b)
  | .busy | .error => missed s

/-- `Transport.init()` has answered (R151). -/
def initStep (a : InitAnswer) (s : State) : State :=
  match s.pos with
  | .transportInit k =>
    match a with
    | .ok => returnPhInit k .none { s with phState := .reset }
    | .error => returnPhInit k .init s
  | _ => s

/-! ### Where the answers come from (R56; log 3) -/

/-- Put an input back in front of what is left. -/
def holdBack {α : Type} (i : Input) (r : α × List Input) : α × List Input := (r.1, i :: r.2)

/-- The answer to the next send attempt, before any tick, command or reset; answers of other kinds are held. -/
def takeTx : List Input → Option (SendAnswer × List Input)
  | .tx a :: is => some (a, is)
  | .rx a :: is => (takeTx is).map (holdBack (.rx a))
  | .init a :: is => (takeTx is).map (holdBack (.init a))
  | .command _ :: _ | .tick :: _ | .hwReset :: _ | [] => none

/-- The answer to the next receive attempt. -/
def takeRx : List Input → Option (RecvAnswer × List Input)
  | .rx a :: is => some (a, is)
  | .tx a :: is => (takeRx is).map (holdBack (.tx a))
  | .init a :: is => (takeRx is).map (holdBack (.init a))
  | .command _ :: _ | .tick :: _ | .hwReset :: _ | [] => none

/-- The answer to the next `Transport.init()`. -/
def takeInit : List Input → Option (InitAnswer × List Input)
  | .init a :: is => some (a, is)
  | .tx a :: is => (takeInit is).map (holdBack (.tx a))
  | .rx a :: is => (takeInit is).map (holdBack (.rx a))
  | .command _ :: _ | .tick :: _ | .hwReset :: _ | [] => none

/-- The next input that is no answer: a command, a tick or the hardware reset. The answers before it are held. -/
def takeEvent : List Input → Option (Input × List Input)
  | [] => none
  | .tx a :: is => (takeEvent is).map (holdBack (.tx a))
  | .rx a :: is => (takeEvent is).map (holdBack (.rx a))
  | .init a :: is => (takeEvent is).map (holdBack (.init a))
  | i :: is => some (i, is)

/-- One engine step (R7): the attempt the engine is at, with the transport's answer; none when the engine is idle
or the attempt has no answer yet. -/
def engineMove (s : State) : Option State :=
  if s.engBusy then
    match s.pos.attempt with
    | none => none
    | some .send => (takeTx s.inputs).map fun r => sendStep r.1 (s.setInputs r.2)
    | some .receive => (takeRx s.inputs).map fun r => receiveStep r.1 (s.setInputs r.2)
    | some .init => (takeInit s.inputs).map fun r => initStep r.1 (s.setInputs r.2)
  else none

/-- At most `fuel` engine steps. -/
def engineRun : Nat → State → State
  | 0, s => s
  | fuel + 1, s =>
    match engineMove s with
    | none => s
    | some s' => engineRun fuel s'

/-- The engine's turn: engine steps until the command completes or its attempt has no answer before the next tick,
command or hardware reset. Each step uses up one input, so their number bounds the turn. Log 4. -/
def turn (s : State) : State := engineRun s.inputs.length s

/-! ### What an instruction does with the engine -/

/-- A host command: refused while another is in progress (R29, U1); else it is latched, its procedure runs to its
first attempt, and the engine has its turn. -/
def issue (i : Instr) (procedure : State → State) (s : State) : Host.Outcome State Fault Refusal :=
  if s.engBusy then .refused .commandWhileBusy
  else .next (turn (procedure (s.latch i)))

/-- The byte of the engine's pending send attempt. -/
def State.pendingSend (s : State) : Option Byte :=
  if s.engBusy then s.pos.sendByte s.txBuf else none

/-- The engine is at a receive attempt. -/
def State.receiving (s : State) : Bool :=
  s.engBusy && s.pos.attempt == some .receive

/-- `Transport.send(b)`, one attempt (R6, R54, R56): on `Ok` the byte joins `TXS`; an attempt of the engine's own goes
on as its procedure says. With no answer yet nothing has happened. -/
def sendAttempt (b : Byte) (s : State) : State :=
  match takeTx s.inputs with
  | none => s
  | some (a, rest) =>
    if s.pendingSend = some b then turn (sendStep a (s.setInputs rest))
    else if a = .ok then (s.setInputs rest).pushTx b
    else s.setInputs rest

/-- `Transport.receive()` answered `Ok(b)` (R6, R54, R56): the engine's receive attempt takes the byte; with no attempt
pending it is held as the answer to the next one (R57; log 11). -/
def receiveByte (b : Byte) (s : State) : State :=
  if s.receiving then turn (receiveStep (.ok b) s)
  else s.setInputs (.rx (.ok b) :: s.inputs)

end Sys2Proof.Machine
end

