-- ==== Sys2Proof/Machine/Frame.lean ====
section
/-! DEFINITION. The frame bytes (30_encoding.md R86 to R89) and the frame builder (43_datalink.md R182). A frame row of
the opcode table is the builder's write of that byte into `TXBUF`, and the builder is made of them. Log 12. -/

namespace Sys2Proof.Machine

/-- Frame byte 0, the control byte (R87). -/
def putControl (frameType : BitVec 1) (priority : BitVec 2) (s : State) : State :=
  s.writeTx 0 (controlByte frameType priority)

/-- Frame byte 1, source address bits 15 to 8 (R86). -/
def putSrcHi (a : Byte) (s : State) : State := s.writeTx 1 a

/-- Frame byte 2, source address bits 7 to 0 (R86). -/
def putSrcLo (a : Byte) (s : State) : State := s.writeTx 2 a

/-- Frame byte 3, destination address bits 15 to 8 (R86). -/
def putDstHi (d : Byte) (s : State) : State := s.writeTx 3 d

/-- Frame byte 4, destination address bits 7 to 0 (R86). -/
def putDstLo (d : Byte) (s : State) : State := s.writeTx 4 d

/-- Frame byte 5, the address-type and length byte (R88). -/
def putAddrlen (addressType : BitVec 1) (len : BitVec 4) (s : State) : State :=
  s.writeTx 5 (addrLenByte addressType len)

/-- Frame byte `6 + j`, a payload byte (R86). -/
def putPayload (j : Nat) (b : Byte) (s : State) : State := s.writeTx (6 + j) b

/-- Frame byte `6 + L`, the checksum (R89). -/
def putChecksum (l : Nat) (c : Byte) (s : State) : State := s.writeTx (6 + l) c

/-- `FR_CONTROL` (R87). -/
def execFrControl (frameType : BitVec 1) (priority : BitVec 2) (s : State) : Host.Outcome State Fault Refusal :=
  .next (putControl frameType priority s)

/-- `FR_SRC_HI` (R86). -/
def execFrSrcHi (a : Byte) (s : State) : Host.Outcome State Fault Refusal := .next (putSrcHi a s)

/-- `FR_SRC_LO` (R86). -/
def execFrSrcLo (a : Byte) (s : State) : Host.Outcome State Fault Refusal := .next (putSrcLo a s)

/-- `FR_DST_HI` (R86). -/
def execFrDstHi (d : Byte) (s : State) : Host.Outcome State Fault Refusal := .next (putDstHi d s)

/-- `FR_DST_LO` (R86). -/
def execFrDstLo (d : Byte) (s : State) : Host.Outcome State Fault Refusal := .next (putDstLo d s)

/-- `FR_ADDRLEN` (R88). -/
def execFrAddrlen (addressType : BitVec 1) (len : BitVec 4) (s : State) : Host.Outcome State Fault Refusal :=
  .next (putAddrlen addressType len s)

/-- `FR_PAYLOAD` at place `j` of the payload (R86). -/
def execFrPayload (j : BitVec 4) (b : Byte) (s : State) : Host.Outcome State Fault Refusal :=
  .next (putPayload j.toNat b s)

/-- `FR_CHECKSUM` after `l` payload bytes (R89). -/
def execFrChecksum (l : BitVec 4) (c : Byte) (s : State) : Host.Outcome State Fault Refusal :=
  .next (putChecksum l.toNat c s)

/-- The payload bytes from place `j` on, in increasing order (R182). -/
def putPayloadFrom : Nat → List Byte → State → State
  | _, [], s => s
  | j, b :: bs, s => putPayloadFrom (j + 1) bs (putPayload j b s)

/-- The bytes of the frame before its checksum (R182). -/
def buildBody (frameType addressType : BitVec 1) (priority : BitVec 2) (destination : Addr) (payloadLen : BitVec 4)
    (payload : List Byte) (s : State) : State :=
  let s := putControl frameType priority s
  let s := putSrcHi (s.localAddr.extractLsb' 8 8) s
  let s := putSrcLo (s.localAddr.extractLsb' 0 8) s
  let s := putDstHi (destination.extractLsb' 8 8) s
  let s := putDstLo (destination.extractLsb' 0 8) s
  let s := putAddrlen addressType payloadLen s
  putPayloadFrom 0 (payload.take payloadLen.toNat) s

/-- `build`: the frame, its checksum folded over the bytes just written, and `tx_len` (R182, R180). -/
def build (frameType addressType : BitVec 1) (priority : BitVec 2) (destination : Addr) (payloadLen : BitVec 4)
    (payload : List Byte) (s : State) : State :=
  let s := buildBody frameType addressType priority destination payloadLen payload s
  let s := putChecksum payloadLen.toNat (parity (s.txBuf.first (6 + payloadLen.toNat))) s
  { s with txLen := 7#6 + payloadLen.setWidth 6 }

end Sys2Proof.Machine
end

