-- ==== Sys2Proof/Machine/DataLink.lean ====
section
/-! DEFINITION. The host commands of the Data-Link Frame Codec (43_datalink.md R182 to R188). -/

namespace Sys2Proof.Machine

/-- `DL_INIT` (R187): `ph_init` and `ph_reset`, each up to `N_RETRY` times; the rounds are in `returnPhInit` and
`returnPhReset`. -/
def execDlInit (s : State) : Host.Outcome State Fault Refusal :=
  issue .dlInit (enterPhInit 0) s

/-- `DL_SEND` (R183): build the frame, then `data_request(tx_len, T_DL)`; the code is mapped by
`returnDataRequest`. -/
def execDlSend (frameType addressType : BitVec 1) (priority : BitVec 2) (destination : Addr) (payloadLen : BitVec 4)
    (payload : List Byte) (s : State) : Host.Outcome State Fault Refusal :=
  issue (.dlSend frameType addressType priority destination payloadLen payload) (fun s =>
    let s := build frameType addressType priority destination payloadLen payload s
    enterDataRequest s.txLen Config.tDl s) s

/-- `DL_RECV` (R185): `data_receive`, then the checks of `parseFrame`. -/
def execDlRecv (s : State) : Host.Outcome State Fault Refusal :=
  issue .dlRecv enterDataReceive s

/-- `DL_SETADDR addr` (R188). -/
def execDlSetaddr (addr : Addr) (s : State) : Host.Outcome State Fault Refusal :=
  issue (.dlSetaddr addr) (fun s => ({ s with localAddr := addr } : State).complete .none) s

/-- `DL_GETADDR` (R188). -/
def execDlGetaddr (s : State) : Host.Outcome State Fault Refusal :=
  issue .dlGetaddr (fun s => ({ s with resAddr := s.localAddr } : State).complete .none) s

end Sys2Proof.Machine
end

