-- ==== Sys2Proof/Machine/PhyByte.lean ====
section
/-! DEFINITION. The byte-level host commands of the physical layer (41_phy_byte.md R130 to R134). They make no state
check and neither read nor write `ph_state`. -/

namespace Sys2Proof.Machine

/-- `PH_SEND byte, timeout` (R131). -/
def execPhSend (byte : Byte) (timeout : Tick) (s : State) : Host.Outcome State Fault Refusal :=
  issue (.phSend byte timeout) (fun s => s.beginWait timeout (.sendOne byte)) s

/-- `PH_RECV timeout` (R132). -/
def execPhRecv (timeout : Tick) (s : State) : Host.Outcome State Fault Refusal :=
  issue (.phRecv timeout) (fun s => s.beginWait timeout .recvOne) s

/-- `PH_WAIT byte, timeout` (R133). -/
def execPhWait (byte : Byte) (timeout : Tick) (s : State) : Host.Outcome State Fault Refusal :=
  issue (.phWait byte timeout) (fun s => s.beginWait timeout (.waitByte byte)) s

/-- `PH_WAITM byte, timeout`; `byte` is the mask (R134). -/
def execPhWaitm (byte : Byte) (timeout : Tick) (s : State) : Host.Outcome State Fault Refusal :=
  issue (.phWaitm byte timeout) (fun s => s.beginWait timeout (.waitMask byte)) s

end Sys2Proof.Machine
end

