-- ==== Sys2Proof/Machine/PhyServices.lean ====
section
/-! DEFINITION. The host commands of the physical layer's services and the device state machine
(42_phy_services.md R150 to R161). -/

namespace Sys2Proof.Machine

/-- `PH_INIT` (R151). -/
def execPhInit (s : State) : Host.Outcome State Fault Refusal :=
  issue .phInit (enterPhInit 0) s

/-- `PH_RESET` (R152). -/
def execPhReset (s : State) : Host.Outcome State Fault Refusal :=
  issue .phReset (enterPhReset 0) s

/-- `PH_STATEQ` (R153). -/
def execPhStateq (s : State) : Host.Outcome State Fault Refusal :=
  issue .phStateq enterStateQuery s

/-- `PH_REQ req` (R154). -/
def execPhReq (req : BitVec 4) (s : State) : Host.Outcome State Fault Refusal :=
  issue (.phReq req) (enterPhRequest (Req.ofCode req)) s

/-- `PH_ACK kind`; the illegal kind is refused before the state check (R155, R214). -/
def execPhAck (kind : BitVec 2) (s : State) : Host.Outcome State Fault Refusal :=
  issue (.phAck kind) (fun s =>
    match AckKind.ofCode kind with
    | none => s.complete .request
    | some k => enterPhAck k s) s

/-- `PH_DATAREQ length, timeout` (R156). -/
def execPhDatareq (length : BitVec 6) (timeout : Tick) (s : State) : Host.Outcome State Fault Refusal :=
  issue (.phDatareq length timeout) (enterDataRequest length timeout) s

/-- `PH_DATARCV` (R157). -/
def execPhDatarcv (s : State) : Host.Outcome State Fault Refusal :=
  issue .phDatarcv enterDataReceive s

/-- `PH_GETSTATE` (R158). -/
def execPhGetstate (s : State) : Host.Outcome State Fault Refusal :=
  issue .phGetstate (fun s => ({ s with resPhstate := s.phState.code } : State).complete .none) s

/-- `TXBUF_WR idx, byte` (R160). -/
def execTxbufWr (idx : BitVec 6) (byte : Byte) (s : State) : Host.Outcome State Fault Refusal :=
  issue (.txbufWr idx byte) (fun s =>
    if indexInRange idx then (s.writeTx idx.toNat byte).complete .none else s.complete .request) s

/-- `RXBUF_RD idx` (R161). -/
def execRxbufRd (idx : BitVec 6) (s : State) : Host.Outcome State Fault Refusal :=
  issue (.rxbufRd idx) (fun s =>
    if indexInRange idx then ({ s with resByte := s.rxBuf.read idx.toNat } : State).complete .none
    else s.complete .request) s

end Sys2Proof.Machine
end

