-- ==== Sys2Proof/Machine/Timer.lean ====
section
/-! DEFINITION. The host commands of the Timer/Timeout Service (40_timer.md R110 to R117). None can fail. -/

namespace Sys2Proof.Machine

/-- `T_INIT` (R110). -/
def execTInit (s : State) : Host.Outcome State Fault Refusal :=
  issue .tInit (fun s => s.timerInit.complete .none) s

/-- `T_START timeout`; the operand is ignored (R111). -/
def execTStart (timeout : Tick) (s : State) : Host.Outcome State Fault Refusal :=
  issue (.tStart timeout) (fun s => s.timerStart.complete .none) s

/-- `T_STOP` (R113). -/
def execTStop (s : State) : Host.Outcome State Fault Refusal :=
  issue .tStop (fun s => ({ s.timerStop with resTicks := s.ticks } : State).complete .none) s

/-- `T_RESET` (R114). -/
def execTReset (s : State) : Host.Outcome State Fault Refusal :=
  issue .tReset (fun s => ({ s.timerInit with resTicks := s.ticks } : State).complete .none) s

/-- `T_STATE` (R115). -/
def execTState (s : State) : Host.Outcome State Fault Refusal :=
  issue .tState (fun s => ({ s with resTstate := s.timerState.code } : State).complete .none) s

/-- `T_TICKS` (R116). -/
def execTTicks (s : State) : Host.Outcome State Fault Refusal :=
  issue .tTicks (fun s => ({ s with resTicks := s.ticks } : State).complete .none) s

/-- `T_ELAPSED ref, budget` (R117). -/
def execTElapsed (ref budget : Tick) (s : State) : Host.Outcome State Fault Refusal :=
  issue (.tElapsed ref budget) (fun s =>
    ({ s with
        resFlag := BitVec.ofBool (hasElapsed s.ticks ref budget).1
        resRef := (hasElapsed s.ticks ref budget).2.1
        resBudget := (hasElapsed s.ticks ref budget).2.2 } : State).complete .none) s

end Sys2Proof.Machine
end

