-- ==== Sys2Proof/Machine/Wire.lean ====
section
/-! DEFINITION. The wire bytes as operations at the transport interface (20_memory.md R54, R56; 30_encoding.md R80 to
R85, R91). A byte to the transport is one attempt `Transport.send(b)` (log 10); a byte from it is one
`Transport.receive()` answered `Ok(b)` (log 11). -/

namespace Sys2Proof.Machine

/-- `W_RESET_REQ` (R80). -/
def execWResetReq (s : State) : Host.Outcome State Fault Refusal := .next (sendAttempt 0x01#8 s)

/-- `W_STATE_QUERY` (R80). -/
def execWStateQuery (s : State) : Host.Outcome State Fault Refusal := .next (sendAttempt 0x02#8 s)

/-- `W_ACTIVATE_BUSMONITOR` (R80). -/
def execWActivateBusmonitor (s : State) : Host.Outcome State Fault Refusal := .next (sendAttempt 0x05#8 s)

/-- `W_ACKINFO_BASE` (R82). -/
def execWAckinfoBase (s : State) : Host.Outcome State Fault Refusal := .next (sendAttempt Config.ackBase s)

/-- `W_ACK_ADDRESSED` (R82). -/
def execWAckAddressed (s : State) : Host.Outcome State Fault Refusal := .next (sendAttempt 0x11#8 s)

/-- `W_ACK_BUSY` (R82). -/
def execWAckBusy (s : State) : Host.Outcome State Fault Refusal := .next (sendAttempt 0x12#8 s)

/-- `W_ACK_NACK` (R82). -/
def execWAckNack (s : State) : Host.Outcome State Fault Refusal := .next (sendAttempt 0x14#8 s)

/-- `W_PRODUCT_ID_QUERY` (R80). -/
def execWProductIdQuery (s : State) : Host.Outcome State Fault Refusal := .next (sendAttempt 0x20#8 s)

/-- `W_ACTIVATE_BUSY_MODE` (R80). -/
def execWActivateBusyMode (s : State) : Host.Outcome State Fault Refusal := .next (sendAttempt 0x21#8 s)

/-- `W_DEACTIVATE_BUSY_MODE` (R80). -/
def execWDeactivateBusyMode (s : State) : Host.Outcome State Fault Refusal := .next (sendAttempt 0x22#8 s)

/-- `W_SET_MAX_RETRY_COUNT` (R91 d; only a host sends it, with `PH_SEND`). -/
def execWSetMaxRetryCount (s : State) : Host.Outcome State Fault Refusal := .next (sendAttempt 0x24#8 s)

/-- `W_ACTIVATE_CHECKSUM` (R91 d; only a host sends it, with `PH_SEND`). -/
def execWActivateChecksum (s : State) : Host.Outcome State Fault Refusal := .next (sendAttempt 0x25#8 s)

/-- `W_SET_ADDRESS` (R80). -/
def execWSetAddress (s : State) : Host.Outcome State Fault Refusal := .next (sendAttempt 0x28#8 s)

/-- `W_DATA_START` (R81). -/
def execWDataStart (s : State) : Host.Outcome State Fault Refusal := .next (sendAttempt Config.dataStart s)

/-- `W_DATA_CONTINUE`, the marker before interior frame byte `i` (R81). -/
def execWDataContinue (i : BitVec 6) (s : State) : Host.Outcome State Fault Refusal :=
  .next (sendAttempt (dataContinueByte i) s)

/-- `W_DATA_END`, the marker before the last of `n` frame bytes (R81). -/
def execWDataEnd (n : BitVec 6) (s : State) : Host.Outcome State Fault Refusal :=
  .next (sendAttempt (dataEndByte n) s)

/-- `W_RESET_INDICATION` (R83). -/
def execWResetIndication (s : State) : Host.Outcome State Fault Refusal := .next (receiveByte 0x03#8 s)

/-- `W_STATE_INDICATION` (R84). -/
def execWStateIndication (slaveCollision receiveError transmitError protocolError temperatureWarning : Bool)
    (s : State) : Host.Outcome State Fault Refusal :=
  .next (receiveByte
    (stateIndicationByte slaveCollision receiveError transmitError protocolError temperatureWarning) s)

/-- `W_DATA_CONFIRM_SUCCESS` (R85). -/
def execWDataConfirmSuccess (s : State) : Host.Outcome State Fault Refusal := .next (receiveByte 0x8B#8 s)

/-- `W_DATA_CONFIRM_FAILED` (R85). -/
def execWDataConfirmFailed (s : State) : Host.Outcome State Fault Refusal := .next (receiveByte 0x0B#8 s)

/-- `W_DATA_CONFIRM_OTHER` (R85). -/
def execWDataConfirmOther (high : BitVec 4) (bit2 : Bool) (s : State) : Host.Outcome State Fault Refusal :=
  .next (receiveByte (dataConfirmOtherByte high bit2) s)

end Sys2Proof.Machine
end

