-- ==== Sys2Proof/Machine/Dispatch.lean ====
section
/-! DEFINITION. One arm per constructor of Instr, each a direct call of its meaning. -/

namespace Sys2Proof.Machine

def exec (i : Instr) (s : State) : Host.Outcome State Fault Refusal :=
  match i with
  | .tInit => Sys2Proof.Machine.execTInit s
  | .tStart timeout => Sys2Proof.Machine.execTStart timeout s
  | .tStop => Sys2Proof.Machine.execTStop s
  | .tReset => Sys2Proof.Machine.execTReset s
  | .tState => Sys2Proof.Machine.execTState s
  | .tTicks => Sys2Proof.Machine.execTTicks s
  | .tElapsed ref budget => Sys2Proof.Machine.execTElapsed ref budget s
  | .phSend byte timeout => Sys2Proof.Machine.execPhSend byte timeout s
  | .phRecv timeout => Sys2Proof.Machine.execPhRecv timeout s
  | .phWait byte timeout => Sys2Proof.Machine.execPhWait byte timeout s
  | .phWaitm byte timeout => Sys2Proof.Machine.execPhWaitm byte timeout s
  | .phInit => Sys2Proof.Machine.execPhInit s
  | .phReset => Sys2Proof.Machine.execPhReset s
  | .phStateq => Sys2Proof.Machine.execPhStateq s
  | .phReq req => Sys2Proof.Machine.execPhReq req s
  | .phAck kind => Sys2Proof.Machine.execPhAck kind s
  | .phDatareq length timeout => Sys2Proof.Machine.execPhDatareq length timeout s
  | .phDatarcv => Sys2Proof.Machine.execPhDatarcv s
  | .phGetstate => Sys2Proof.Machine.execPhGetstate s
  | .txbufWr idx byte => Sys2Proof.Machine.execTxbufWr idx byte s
  | .rxbufRd idx => Sys2Proof.Machine.execRxbufRd idx s
  | .dlInit => Sys2Proof.Machine.execDlInit s
  | .dlSend frameType addressType priority destination payloadLen payload => Sys2Proof.Machine.execDlSend frameType addressType priority destination payloadLen payload s
  | .dlRecv => Sys2Proof.Machine.execDlRecv s
  | .dlSetaddr addr => Sys2Proof.Machine.execDlSetaddr addr s
  | .dlGetaddr => Sys2Proof.Machine.execDlGetaddr s
  | .wResetReq => Sys2Proof.Machine.execWResetReq s
  | .wStateQuery => Sys2Proof.Machine.execWStateQuery s
  | .wActivateBusmonitor => Sys2Proof.Machine.execWActivateBusmonitor s
  | .wAckinfoBase => Sys2Proof.Machine.execWAckinfoBase s
  | .wAckAddressed => Sys2Proof.Machine.execWAckAddressed s
  | .wAckBusy => Sys2Proof.Machine.execWAckBusy s
  | .wAckNack => Sys2Proof.Machine.execWAckNack s
  | .wProductIdQuery => Sys2Proof.Machine.execWProductIdQuery s
  | .wActivateBusyMode => Sys2Proof.Machine.execWActivateBusyMode s
  | .wDeactivateBusyMode => Sys2Proof.Machine.execWDeactivateBusyMode s
  | .wSetMaxRetryCount => Sys2Proof.Machine.execWSetMaxRetryCount s
  | .wActivateChecksum => Sys2Proof.Machine.execWActivateChecksum s
  | .wSetAddress => Sys2Proof.Machine.execWSetAddress s
  | .wDataStart => Sys2Proof.Machine.execWDataStart s
  | .wDataContinue idx => Sys2Proof.Machine.execWDataContinue idx s
  | .wDataEnd n => Sys2Proof.Machine.execWDataEnd n s
  | .wResetIndication => Sys2Proof.Machine.execWResetIndication s
  | .wStateIndication slaveCollision receiveError transmitError protocolError temperatureWarning => Sys2Proof.Machine.execWStateIndication slaveCollision receiveError transmitError protocolError temperatureWarning s
  | .wDataConfirmSuccess => Sys2Proof.Machine.execWDataConfirmSuccess s
  | .wDataConfirmFailed => Sys2Proof.Machine.execWDataConfirmFailed s
  | .wDataConfirmOther high bit2 => Sys2Proof.Machine.execWDataConfirmOther high bit2 s
  | .frControl frameType priority => Sys2Proof.Machine.execFrControl frameType priority s
  | .frSrcHi a => Sys2Proof.Machine.execFrSrcHi a s
  | .frSrcLo a => Sys2Proof.Machine.execFrSrcLo a s
  | .frDstHi d => Sys2Proof.Machine.execFrDstHi d s
  | .frDstLo d => Sys2Proof.Machine.execFrDstLo d s
  | .frAddrlen addressType len => Sys2Proof.Machine.execFrAddrlen addressType len s
  | .frPayload j b => Sys2Proof.Machine.execFrPayload j b s
  | .frChecksum l c => Sys2Proof.Machine.execFrChecksum l c s

end Sys2Proof.Machine
end

