-- ==== Sys2Proof/Machine/Fetch.lean ====
section
/-! DEFINITION. What the next step does (R7): the engine's attempt, with the wire word it carries; or the next command,
tick or hardware reset; or nothing. -/

namespace Sys2Proof.Machine

/-- The slot of the byte a position sends or waits for, where the byte is a row of the opcode table's wire part.
Frame bytes, and bytes a wait takes whatever they are, have none. -/
def Pos.wireSlot : Pos → Option Slot
  | .sendOne _ | .resetSend _ | .querySend | .reqSend _ _ | .ackSend _ => some .txService
  | .dataMark n _ i => some (dataMarkerSlot n i)
  | .resetWait _ => some .rxReset
  | .queryWait => some .rxState
  | .dataConfirm => some .rxConfirm
  | .idle | .transportInit _ | .dataByte _ _ _ | .recvOne | .waitByte _ | .waitMask _ | .dataRecv _ => none

/-- The wire byte of the engine's attempt: for a send the byte it hands over, once the transport has an answer; for
a receive the byte the transport hands over, taken from the inputs. -/
def wireByte (s : State) : Option (Byte × State) :=
  if s.engBusy then
    match s.pos.attempt with
    | some .send =>
      match s.pos.sendByte s.txBuf, takeTx s.inputs with
      | some b, some _ => some (b, s)
      | _, _ => none
    | some .receive =>
      match takeRx s.inputs with
      | some (.ok b, rest) => some (b, s.setInputs rest)
      | _ => none
    | some .init | none => none
  else none

/-- The wire instruction the engine is at, and the state it runs in. -/
def wireInstr (s : State) : Option (Instr × State) :=
  match s.pos.wireSlot, wireByte s with
  | some slot, some (b, s') =>
    match decodeByte slot b with
    | .ok i => some (i, s')
    | .error _ => none
  | _, _ => none

/-- What the next step does. -/
inductive Next where
  /-- the engine's attempt is a row of the opcode table, run in this state -/
  | wire (i : Instr) (s : State)
  /-- the engine's attempt is no row of the table; this is the state after its turn -/
  | engine (s : State)
  /-- the host issues a command -/
  | command (w : CmdWord) (s : State)
  /-- a tick -/
  | tick (s : State)
  /-- the hardware reset event -/
  | hwReset (s : State)
  /-- nobody moves -/
  | nothing

/-- The engine moves while its attempt has an answer; else the next event from outside happens (log 4). -/
def fetch (s : State) : Next :=
  match wireInstr s with
  | some (i, s') => .wire i s'
  | none =>
    match engineMove s with
    | some s' => .engine (turn s')
    | none =>
      match takeEvent s.inputs with
      | some (.command w, rest) => .command w (s.setInputs rest)
      | some (.tick, rest) => .tick (s.setInputs rest)
      | some (.hwReset, rest) => .hwReset (s.setInputs rest)
      | some (.tx _, _) | some (.rx _, _) | some (.init _, _) | none => .nothing

/-! ### Placing one word where the next step fetches (log 14) -/

/-- The engine idle, its command abandoned; an idle engine is left as it is. -/
def State.idled (s : State) : State :=
  if s.engBusy then { s with engBusy := false, latched := none, pos := .idle } else s

/-- The engine inside the command `i` at position `p`, its wait begun with no deadline. -/
def State.inside (s : State) (i : Instr) (p : Pos) : State :=
  (s.latch i).beginWait Config.tInfinite p

/-- The state in which the next step runs the word of a slot: a command is issued to an idle engine; a wire byte is the
engine's attempt, inside a command that makes it, with the transport's answer at hand. -/
def placeWord (slot : Slot) (w : CmdWord) (s : State) : State :=
  let b : Byte := w.extractLsb' 0 8
  let low : BitVec 6 := b.extractLsb' 0 6
  let sending (s : State) : State := s.setInputs (.tx .ok :: s.inputs)
  let handing (s : State) : State := s.setInputs (.rx (.ok b) :: s.inputs)
  match slot with
  | .txService => sending (s.inside (.phSend b Config.tInfinite) (.sendOne b))
  | .txStart => sending (s.inside (.phDatareq 2#6 Config.tInfinite) (.dataMark 2 Config.tInfinite 0))
  | .txContinue =>
    sending (s.inside (.phDatareq 22#6 Config.tInfinite) (.dataMark 22 Config.tInfinite low.toNat))
  | .txEnd =>
    sending (s.inside (.phDatareq low Config.tInfinite) (.dataMark low.toNat Config.tInfinite (low.toNat - 1)))
  | .rxReset => handing (s.inside .phReset (.resetWait 0))
  | .rxState => handing (s.inside .phStateq .queryWait)
  | .rxConfirm => handing (s.inside (.phDatareq 2#6 Config.tInfinite) .dataConfirm)
  | .command | .frameControl | .frameSrcHi | .frameSrcLo | .frameDstHi | .frameDstLo | .frameAddrlen
  | .framePayload _ | .frameChecksum _ =>
    s.idled.setInputs (.command w :: s.inputs)

end Sys2Proof.Machine
end

