-- ==== Sys2Proof/Machine/Step.lean ====
section
/-! DEFINITION. One step of the machine: one agent moves (R7). -/

namespace Sys2Proof.Machine

/-- One step: the engine has its turn, or the host issues a command, or a tick or the hardware reset happens, or
nobody moves. -/
def step (s : State) : Host.Outcome State Fault Refusal :=
  match fetch s with
  | .wire i s' => exec i s'
  | .engine s' => .next s'
  | .command w s' =>
    if s'.engBusy then .refused .commandWhileBusy
    else
      match decode .command w with
      | .ok i => exec i s'
      | .error _ => .next s'.illegalCommand
  | .tick s' => .next s'.tickEvent
  | .hwReset s' => .next s'.hardwareReset
  | .nothing => .next s

/-- `s` with one table word placed so that the next step fetches and runs exactly it (log 14). -/
def State.withFetchWord (s : State) (nbits w : Nat) : State :=
  placeWord (tableWordSlot (w % 2 ^ nbits)) (BitVec.ofNat 152 (w % 2 ^ nbits)) s

end Sys2Proof.Machine
end

