-- ==== Sys2Proof/Safety.lean ====
section
/-! DEFINITION. What a state of the block that a run can reach looks like: the invariant that statements take as their
premise where they need one. -/

namespace Sys2Proof.Machine

/-- Which positions belong to a latched command's procedure (R29), with the bounds of the loop indices: `i` and `n` of
`data_request` (R156), `n` of `data_receive` (R157), `k` of `dl_init` (R187). -/
def posOf (i : Instr) (p : Pos) : Prop :=
  match p with
  | .idle => False
  | .sendOne b => ∃ t, i = .phSend b t
  | .recvOne => ∃ t, i = .phRecv t
  | .waitByte b => ∃ t, i = .phWait b t
  | .waitMask m => ∃ t, i = .phWaitm m t
  | .transportInit k => (i = .phInit ∧ k = 0) ∨ (i = .dlInit ∧ k < Config.nRetry)
  | .resetSend k | .resetWait k =>
    ((i = .phReset ∨ ∃ r, i = .phReq r ∧ Req.ofCode r = .reset) ∧ k = 0) ∨ (i = .dlInit ∧ k < Config.nRetry)
  | .querySend | .queryWait => i = .phStateq ∨ ∃ r, i = .phReq r ∧ Req.ofCode r = .stateQuery
  | .reqSend r w => ∃ c, i = .phReq c ∧ Req.ofCode c = r ∧ r.wire = some w ∧ r ≠ .reset ∧ r ≠ .stateQuery
  | .ackSend k => (∃ c, i = .phAck c ∧ AckKind.ofCode c = some k) ∨ i = .dlRecv
  | .dataMark n t j | .dataByte n t j =>
    2 ≤ n ∧ n ≤ Config.maxFrame ∧ j < n ∧
      ((∃ l, i = .phDatareq l t ∧ l.toNat = n) ∨
        (t = Config.tDl ∧ ∃ f a p d l y, i = .dlSend f a p d l y ∧ n = 7 + l.toNat))
  | .dataConfirm => (∃ l t, i = .phDatareq l t) ∨ ∃ f a p d l y, i = .dlSend f a p d l y
  | .dataRecv n => n < Config.maxFrame ∧ (i = .phDatarcv ∨ i = .dlRecv)

/-- The engine's control state is whole (R29): idle with no command latched, or busy with a latched command and a
position of its procedure. -/
def State.EngineInv (s : State) : Prop :=
  if s.engBusy then ∃ i, s.latched = some i ∧ posOf i s.pos else s.latched = none ∧ s.pos = .idle

/-- The buffers keep their canonical form and their 22 places (R25, R26, R50), the lengths their bound, and
`OUT_PAYLOAD` its fifteen bytes (R28). -/
def State.BufferInv (s : State) : Prop :=
  Memory.wf s.txBuf ∧ Memory.within Config.maxFrame s.txBuf ∧
  Memory.wf s.rxBuf ∧ Memory.within Config.maxFrame s.rxBuf ∧
  s.txLen.toNat ≤ Config.maxFrame ∧ s.rxLen.toNat ≤ Config.maxFrame ∧ s.outPayload.length = Config.maxPayload

/-- `RES_ERR` holds one of the ten codes (R77). -/
def State.CodeInv (s : State) : Prop := ∃ e : ErrCode, s.resErr = e.code

/-- The device state is never `Stopped` (R20, R159). -/
def State.DeviceInv (s : State) : Prop := s.phState ≠ .stopped

/-- While the engine waits for a byte the timer is running (R119). -/
def State.TimerInv (s : State) : Prop :=
  s.engBusy = true → s.pos.attempt ≠ some .init → s.timerState = .running

/-- A command runs in `Uninitialized` only where no rule checks the state (R150). -/
def State.CheckInv (s : State) : Prop :=
  s.engBusy = true → s.phState = .uninitialized →
    match s.pos with
    | .sendOne _ | .recvOne | .waitByte _ | .waitMask _ | .transportInit _ => True
    | _ => False

/-- Everything that every step keeps. -/
structure State.Inv (s : State) : Prop where
  engine : s.EngineInv
  buffers : s.BufferInv
  code : s.CodeInv
  device : s.DeviceInv
  timer : s.TimerInv
  check : s.CheckInv

end Sys2Proof.Machine
end

