-- ==== Sys2Proof/Certificates/Slice0/Obligations.lean ====
section
/-! DEFINITION. The statements about the model, each from a rule of spec/, and the words they are written in. -/

namespace Sys2Proof.Claims

open Sys2Proof Sys2Proof.Machine

/-! ### The words of the statements -/

/-- `s` after `complete(E)` with code `c` (R6, R29): idle, no command latched. -/
def finished (c : BitVec 4) (s : State) : State :=
  { s with resErr := c, engBusy := false, latched := none, pos := .idle }

/-- `s` after the issue of command `i` (R29). -/
def issued (i : Instr) (s : State) : State := { s with engBusy := true, latched := some i }

/-- `s` after `poll_begin(t)`, at the attempt of position `p` (R119, R130). -/
def waiting (t : Tick) (p : Pos) (s : State) : State :=
  { s with timerState := .running, ticks := 0#32, pollRef := 0#32, pollBudget := t, pos := p }

/-- The deadline of the current wait has been reached (R117, R119). -/
def expired (s : State) : Prop :=
  s.pollBudget ≠ 0xFFFFFFFF#32 ∧ s.pollBudget.toNat ≤ (s.ticks - s.pollRef).toNat

/-- `s` after a deadline check that answered 0 (R117, R119). -/
def checked (s : State) : State :=
  if s.pollBudget = 0xFFFFFFFF#32 then s
  else { s with pollRef := s.ticks, pollBudget := s.pollBudget - (s.ticks - s.pollRef) }

/-- The byte an answer to a receive attempt hands over. -/
def heard : RecvAnswer → List Byte
  | .ok b => [b]
  | .busy | .error => []

/-- The bytes the segmented send of `bytes` puts on the wire (R156): Start, Continue and End markers, each before its
frame byte. -/
def segments (bytes : List Byte) : List Byte :=
  (List.range bytes.length).flatMap fun i =>
    [if i = 0 then 0x80#8
     else if i + 1 = bytes.length then 0x80#8 ||| BitVec.ofNat 8 bytes.length
     else 0x80#8 ||| BitVec.ofNat 8 i, bytes.getD i 0#8]

/-- The frame of R86 to R90 with its checksum. -/
def frameBytes (ft at_ : BitVec 1) (prio : BitVec 2) (src dst : Addr) (len : BitVec 4) (payload : List Byte) :
    List Byte :=
  let body := [ft ++ 0b001#3 ++ prio ++ 0b00#2, src.extractLsb' 8 8, src.extractLsb' 0 8,
    dst.extractLsb' 8 8, dst.extractLsb' 0 8, at_ ++ 0b000#3 ++ len] ++ payload.take len.toNat
  body ++ [body.foldl (fun p b => p ^^^ b) 0#8]

/-- The code of `data_request` for a byte the confirm wait accepts (R156). -/
def confirmCode (b : Byte) : BitVec 4 := if b = 0x8B#8 then 0#4 else if b = 0x0B#8 then 5#4 else 4#4

/-- What `receive_and_parse` decides on received bytes `f` (R185 steps 2 to 9): its code, and the acknowledgement. -/
def parseResult (f : List Byte) (localAddr : Addr) (busy : Bool) : BitVec 4 × Option AckKind :=
  if f.length < 7 then (7#4, none)
  else if f.getD 0 0#8 &&& 0x10#8 ≠ 0x10#8 ∨ f.getD 0 0#8 &&& 0x63#8 ≠ 0#8 then (7#4, none)
  else if (f.getD 0 0#8).getLsbD 7 = false then (7#4, none)
  else if f.getD 3 0#8 ++ f.getD 4 0#8 ≠ localAddr then (8#4, none)
  else if (f.take (f.length - 1)).foldl (fun p b => p ^^^ b) 0#8 ≠ f.getD (f.length - 1) 0#8 then
    (7#4, some .nack)
  else if (f.getD 5 0#8 &&& 0x0F#8).toNat ≠ f.length - 7 then (7#4, some .nack)
  else if busy then (9#4, some .busy)
  else (0#4, some .ack)

/-- The byte of each acknowledgement (R82). -/
def ackByte : AckKind → Byte
  | .ack => 0x11#8
  | .busy => 0x12#8
  | .nack => 0x14#8

/-- The code `DL_RECV` ends with after each acknowledgement (R185). -/
def ackCode : AckKind → BitVec 4
  | .ack => 0#4
  | .busy => 9#4
  | .nack => 7#4

/-- `t` differs from `s` in the `OUT_*` registers and the model's counter of free values only. -/
def sameButOut (s t : State) : Prop :=
  t = { s with outFt := t.outFt, outPrio := t.outPrio, outSrc := t.outSrc, outDst := t.outDst, outAt := t.outAt,
               outLen := t.outLen, outPayload := t.outPayload, freeCtr := t.freeCtr }

/-- The `OUT_*` registers hold the fields of the frame `f` (R185 step 9). -/
def outHolds (f : List Byte) (t : State) : Prop :=
  t.outFt = (f.getD 0 0#8).extractLsb' 7 1 ∧ t.outPrio = (f.getD 0 0#8).extractLsb' 2 2 ∧
  t.outSrc = f.getD 1 0#8 ++ f.getD 2 0#8 ∧ t.outDst = f.getD 3 0#8 ++ f.getD 4 0#8 ∧
  t.outAt = (f.getD 5 0#8).extractLsb' 7 1 ∧ t.outLen = (f.getD 5 0#8).extractLsb' 0 4 ∧
  ∀ j, j < ((f.getD 5 0#8).extractLsb' 0 4).toNat → t.outPayload.getD j 0#8 = f.getD (6 + j) 0#8

/-- The wire byte of a valid request code (R73). -/
def requestByte (r : BitVec 4) : Byte :=
  match r.toNat with
  | 0 => 0x01#8
  | 1 => 0x02#8
  | 2 => 0x05#8
  | 3 => 0x20#8
  | 4 => 0x21#8
  | 5 => 0x22#8
  | 6 => 0x28#8
  | _ => 0x10#8

/-- The codes with which a host command can complete (R212). -/
def codesOf : Instr → List (BitVec 4)
  | .tInit | .tStart _ | .tStop | .tReset | .tState | .tTicks | .tElapsed _ _ => [0#4]
  | .phSend _ _ | .phRecv _ => [0#4, 2#4]
  | .phWait _ _ | .phWaitm _ _ => [0#4, 4#4]
  | .phInit => [0#4, 1#4]
  | .phReset => [0#4, 2#4, 3#4]
  | .phStateq | .phReq _ => [0#4, 2#4, 3#4, 6#4]
  | .phAck _ => [0#4, 3#4, 6#4]
  | .phDatareq _ _ => [0#4, 2#4, 3#4, 4#4, 5#4, 6#4]
  | .phDatarcv => [0#4, 2#4, 6#4]
  | .phGetstate | .dlSetaddr _ | .dlGetaddr => [0#4]
  | .txbufWr _ _ | .rxbufRd _ => [0#4, 3#4]
  | .dlInit => [0#4, 1#4]
  | .dlSend _ _ _ _ _ _ => [0#4, 2#4, 5#4]
  | .dlRecv => [0#4, 2#4, 7#4, 8#4, 9#4]
  | _ => []

/-- A row of the table's part "block to transport". -/
def toTransport (i : Instr) : Prop := i.slot = .txService ∨ i.slot = .txStart ∨ i.slot = .txContinue ∨ i.slot = .txEnd

/-- A row of the table's part "transport to block". -/
def fromTransport (i : Instr) : Prop := i.slot = .rxReset ∨ i.slot = .rxState ∨ i.slot = .rxConfirm

/-- The place in `TXBUF` of a frame row (R86). -/
def framePlace : Slot → Option Nat
  | .frameControl => some 0
  | .frameSrcHi => some 1
  | .frameSrcLo => some 2
  | .frameDstHi => some 3
  | .frameDstLo => some 4
  | .frameAddrlen => some 5
  | .framePayload j => some (6 + j.toNat)
  | .frameChecksum l => some (6 + l.toNat)
  | _ => none

end Sys2Proof.Claims

open Sys2Proof Sys2Proof.Machine Sys2Proof.Claims

/-! ### Reset (R33, R240) -/

/-- R33: the values the spec states for reset. What R33 calls unspecified is the model's choice (logs 5, 6) and not
stated here. -/
def Obligations.ResetHoldsTheStatedValues : Prop :=
  State.reset.phState = .uninitialized ∧ State.reset.busy = false ∧ State.reset.localAddr = 0x0000#16 ∧
  State.reset.timerState = .reset ∧ State.reset.ticks = 0#32 ∧ State.reset.txLen = 0#6 ∧ State.reset.rxLen = 0#6 ∧
  State.reset.resErr = 0#4 ∧ State.reset.engBusy = false ∧ State.reset.latched = none ∧ State.reset.pos = .idle

/-- R240: the hardware reset event, at any time. Unspecified registers hold free values, about which nothing can be
known. -/
def Obligations.HardwareResetEvent : Prop :=
  ∀ (s : State) (rest : List Input), s.inputs = .hwReset :: rest →
    ∃ t, step s = .next t ∧
      t.phState = .uninitialized ∧ t.busy = false ∧ t.localAddr = 0x0000#16 ∧ t.timerState = .reset ∧
      t.ticks = 0#32 ∧ t.txLen = 0#6 ∧ t.rxLen = 0#6 ∧ t.resErr = 0#4 ∧ t.engBusy = false ∧ t.latched = none ∧
      t.pos = .idle ∧ t.txs = s.txs ∧ t.rxs = s.rxs ∧ t.inputs = rest ∧
      (∀ i, i < 22 → ∃ n, t.txBuf.read i = Config.freeValue 8 n) ∧
      (∀ i, i < 22 → ∃ n, t.rxBuf.read i = Config.freeValue 8 n) ∧
      (∀ i, i < 15 → ∃ n, t.outPayload.getD i 0#8 = Config.freeValue 8 n) ∧
      (∃ n, t.resByte = Config.freeValue 8 n) ∧ (∃ n, t.resLen = Config.freeValue 6 n) ∧
      (∃ n, t.resTicks = Config.freeValue 32 n) ∧ (∃ n, t.resTstate = Config.freeValue 2 n) ∧
      (∃ n, t.resPhstate = Config.freeValue 3 n) ∧ (∃ n, t.resFlag = Config.freeValue 1 n) ∧
      (∃ n, t.resRef = Config.freeValue 32 n) ∧ (∃ n, t.resBudget = Config.freeValue 32 n) ∧
      (∃ n, t.resAddr = Config.freeValue 16 n) ∧ (∃ n, t.outFt = Config.freeValue 1 n) ∧
      (∃ n, t.outPrio = Config.freeValue 2 n) ∧ (∃ n, t.outSrc = Config.freeValue 16 n) ∧
      (∃ n, t.outDst = Config.freeValue 16 n) ∧ (∃ n, t.outAt = Config.freeValue 1 n) ∧
      (∃ n, t.outLen = Config.freeValue 4 n) ∧ (∃ n, t.pollRef = Config.freeValue 32 n) ∧
      (∃ n, t.pollBudget = Config.freeValue 32 n)

/-! ### The timer (R110 to R118) -/

/-- R110 -/
def Obligations.TimerInit : Prop :=
  ∀ s : State, s.engBusy = false →
    exec .tInit s = .next (finished 0#4 { s with timerState := .reset, ticks := 0#32 })

/-- R111: the operand is ignored. -/
def Obligations.TimerStart : Prop :=
  ∀ (s : State) (timeout : Tick), s.engBusy = false →
    exec (.tStart timeout) s = .next (finished 0#4 { s with timerState := .running, ticks := 0#32 })

/-- R112: a tick is a step of its own, at any time, and counts only while the timer is running; the counter wraps. -/
def Obligations.TickEvent : Prop :=
  ∀ (s : State) (rest : List Input), s.inputs = .tick :: rest →
    (s.timerState = .running → step s = .next { s with inputs := rest, ticks := s.ticks + 1#32 }) ∧
    (s.timerState ≠ .running → step s = .next { s with inputs := rest })

/-- R113 -/
def Obligations.TimerStop : Prop :=
  ∀ s : State, s.engBusy = false →
    exec .tStop s = .next (finished 0#4 { s with timerState := .paused, resTicks := s.ticks })

/-- R114 -/
def Obligations.TimerReset : Prop :=
  ∀ s : State, s.engBusy = false →
    exec .tReset s = .next (finished 0#4 { s with timerState := .reset, ticks := 0#32, resTicks := s.ticks })

/-- R115, R116, R158: the pure readers, with the codes of R75 and R76. -/
def Obligations.PureReaders : Prop :=
  ∀ s : State, s.engBusy = false →
    (∃ t, exec .tState s = .next t ∧ t = finished 0#4 { s with resTstate := t.resTstate } ∧
      (s.timerState = .reset → t.resTstate = 0#2) ∧ (s.timerState = .running → t.resTstate = 1#2) ∧
      (s.timerState = .paused → t.resTstate = 2#2)) ∧
    exec .tTicks s = .next (finished 0#4 { s with resTicks := s.ticks }) ∧
    (∃ t, exec .phGetstate s = .next t ∧ t = finished 0#4 { s with resPhstate := t.resPhstate } ∧
      (s.phState = .uninitialized → t.resPhstate = 0#3) ∧ (s.phState = .reset → t.resPhstate = 1#3) ∧
      (s.phState = .normal → t.resPhstate = 2#3) ∧ (s.phState = .monitor → t.resPhstate = 3#3) ∧
      (s.phState = .stopped → t.resPhstate = 4#3))

/-- R117 -/
def Obligations.ElapsedPredicate : Prop :=
  ∀ (s : State) (ref budget : Tick), s.engBusy = false →
    (budget = 0xFFFFFFFF#32 →
      exec (.tElapsed ref budget) s =
        .next (finished 0#4 { s with resFlag := 0#1, resRef := ref, resBudget := budget })) ∧
    (budget ≠ 0xFFFFFFFF#32 → budget.toNat ≤ (s.ticks - ref).toNat →
      exec (.tElapsed ref budget) s =
        .next (finished 0#4 { s with resFlag := 1#1, resRef := ref, resBudget := budget })) ∧
    (budget ≠ 0xFFFFFFFF#32 → (s.ticks - ref).toNat < budget.toNat →
      exec (.tElapsed ref budget) s =
        .next (finished 0#4
          { s with resFlag := 0#1, resRef := s.ticks, resBudget := budget - (s.ticks - ref) }))

/-- R117, R118: repeated calls converge. A poll after `c` ticks that finds the budget not used up, then one `d` ticks
later with the operands fed back, is elapsed exactly when the budget is at most `c + d`, across a wrap of the counter
too. -/
def Obligations.RepeatedPollsConverge : Prop :=
  ∀ (ref budget : Tick) (c d : Nat), budget ≠ 0xFFFFFFFF#32 → c + d < 2 ^ 32 → c < budget.toNat →
    let first := hasElapsed (ref + BitVec.ofNat 32 c) ref budget
    first.1 = false ∧
      ((hasElapsed (ref + BitVec.ofNat 32 (c + d)) first.2.1 first.2.2).1 = true ↔ budget.toNat ≤ c + d)

/-! ### Byte level (R130 to R135) -/

/-- R130: at every send and every receive attempt, an answer that does not end the wait, `Error` as well as `Busy`, is
followed by the deadline check, and before the deadline the engine is at the same attempt again; a byte the wait
does not accept is consumed and lost. -/
def Obligations.WaitsGoOnBeforeTheDeadline : Prop :=
  (∀ (s : State) (a : SendAnswer) (rest : List Input), s.engBusy = true → s.pos.attempt = some .send →
    takeTx s.inputs = some (a, rest) → a ≠ .ok → ¬ expired s →
    engineMove s = some (checked { s with inputs := rest })) ∧
  (∀ (s : State) (a : RecvAnswer) (rest : List Input), s.engBusy = true → s.pos.attempt = some .receive →
    takeRx s.inputs = some (a, rest) → (∀ b, a = .ok b → s.pos.accepts b = false) → ¬ expired s →
    engineMove s = some (checked { s with inputs := rest, rxs := s.rxs ++ heard a }))

/-- R131 -/
def Obligations.SendData : Prop :=
  (∀ (s : State) (b : Byte) (timeout : Tick), s.engBusy = false →
    exec (.phSend b timeout) s = .next (turn (waiting timeout (.sendOne b) (issued (.phSend b timeout) s)))) ∧
  (∀ (s : State) (b : Byte) (timeout : Tick) (rest : List Input), s.engBusy = false →
    takeTx s.inputs = some (.ok, rest) →
    exec (.phSend b timeout) s =
      .next (finished 0#4 (waiting timeout .idle { s with inputs := rest, txs := s.txs ++ [b] }))) ∧
  (∀ (s : State) (b : Byte) (a : SendAnswer) (rest : List Input), s.engBusy = true → s.pos = .sendOne b →
    takeTx s.inputs = some (a, rest) →
    (a = .ok → engineMove s = some (finished 0#4 { s with inputs := rest, txs := s.txs ++ [b] })) ∧
    (a ≠ .ok → expired s → engineMove s = some (finished 2#4 { s with inputs := rest })) ∧
    (a ≠ .ok → ¬ expired s → engineMove s = some (checked { s with inputs := rest })))

/-- R132 -/
def Obligations.RecvData : Prop :=
  (∀ (s : State) (timeout : Tick), s.engBusy = false →
    exec (.phRecv timeout) s = .next (turn (waiting timeout .recvOne (issued (.phRecv timeout) s)))) ∧
  (∀ (s : State) (b : Byte) (timeout : Tick) (rest : List Input), s.engBusy = false →
    takeRx s.inputs = some (.ok b, rest) →
    exec (.phRecv timeout) s =
      .next (finished 0#4 (waiting timeout .idle
        { s with inputs := rest, rxs := s.rxs ++ [b], resByte := b }))) ∧
  (∀ (s : State) (a : RecvAnswer) (rest : List Input), s.engBusy = true → s.pos = .recvOne →
    takeRx s.inputs = some (a, rest) →
    (∀ b, a = .ok b →
      engineMove s = some (finished 0#4 { s with inputs := rest, rxs := s.rxs ++ [b], resByte := b })) ∧
    ((∀ b, a ≠ .ok b) → expired s → engineMove s = some (finished 2#4 { s with inputs := rest })) ∧
    ((∀ b, a ≠ .ok b) → ¬ expired s → engineMove s = some (checked { s with inputs := rest })))

/-- R133 -/
def Obligations.WaitFor : Prop :=
  (∀ (s : State) (x : Byte) (timeout : Tick), s.engBusy = false →
    exec (.phWait x timeout) s = .next (turn (waiting timeout (.waitByte x) (issued (.phWait x timeout) s)))) ∧
  (∀ (s : State) (x : Byte) (timeout : Tick) (rest : List Input), s.engBusy = false →
    takeRx s.inputs = some (.ok x, rest) →
    exec (.phWait x timeout) s =
      .next (finished 0#4 (waiting timeout .idle { s with inputs := rest, rxs := s.rxs ++ [x] }))) ∧
  (∀ (s : State) (x : Byte) (a : RecvAnswer) (rest : List Input), s.engBusy = true → s.pos = .waitByte x →
    takeRx s.inputs = some (a, rest) →
    (a = .ok x → engineMove s = some (finished 0#4 { s with inputs := rest, rxs := s.rxs ++ [x] })) ∧
    (a ≠ .ok x → expired s →
      engineMove s = some (finished 4#4 { s with inputs := rest, rxs := s.rxs ++ heard a })) ∧
    (a ≠ .ok x → ¬ expired s →
      engineMove s = some (checked { s with inputs := rest, rxs := s.rxs ++ heard a })))

/-- R134 -/
def Obligations.WaitForMasked : Prop :=
  (∀ (s : State) (mask : Byte) (timeout : Tick), s.engBusy = false →
    exec (.phWaitm mask timeout) s =
      .next (turn (waiting timeout (.waitMask mask) (issued (.phWaitm mask timeout) s)))) ∧
  (∀ (s : State) (mask b : Byte) (timeout : Tick) (rest : List Input), s.engBusy = false →
    takeRx s.inputs = some (.ok b, rest) → b &&& mask = mask →
    exec (.phWaitm mask timeout) s =
      .next (finished 0#4 (waiting timeout .idle
        { s with inputs := rest, rxs := s.rxs ++ [b], resByte := b }))) ∧
  (∀ (s : State) (mask : Byte) (a : RecvAnswer) (rest : List Input), s.engBusy = true → s.pos = .waitMask mask →
    takeRx s.inputs = some (a, rest) →
    (∀ b, a = .ok b → b &&& mask = mask →
      engineMove s = some (finished 0#4 { s with inputs := rest, rxs := s.rxs ++ [b], resByte := b })) ∧
    ((∀ b, a = .ok b → b &&& mask ≠ mask) → expired s →
      engineMove s = some (finished 4#4 { s with inputs := rest, rxs := s.rxs ++ heard a })) ∧
    ((∀ b, a = .ok b → b &&& mask ≠ mask) → ¬ expired s →
      engineMove s = some (checked { s with inputs := rest, rxs := s.rxs ++ heard a })))

/-- R135 on the machine's own steps: `PH_RECV timeout` with a silent transport, run from its issue, is over with
`Timeout` at the first check made after `k >= timeout` ticks; nothing was received. The steps it counts are `k` ticks and
two turns of the engine: that a step is a turn is the model's choice (log 4). -/
def Obligations.ReceiveTimesOutAfterItsTicks : Prop :=
  ∀ (s : State) (timeout : Tick) (k : Nat) (rest : List Input), s.engBusy = false →
    timeout ≠ 0xFFFFFFFF#32 → 0 < timeout.toNat → timeout.toNat ≤ k → k < 2 ^ 32 →
    s.inputs = .command (encode (.phRecv timeout)) :: .rx .busy :: (List.replicate k .tick ++ .rx .busy :: rest) →
    ∃ t : State, Sys2Proof.core.run (k + 2) s = .next t ∧ t.resErr = 2#4 ∧ t.engBusy = false ∧ t.inputs = rest ∧
      t.rxs = s.rxs ∧ t.txs = s.txs ∧ t.resByte = s.resByte ∧ t.phState = s.phState ∧ t.timerState = .running ∧
      t.ticks = BitVec.ofNat 32 k

/-! ### Services (R150 to R161) -/

/-- R150: in `Uninitialized` the five checked services complete with `State` and touch nothing: no timer restart, no
transport attempt. -/
def Obligations.StateCheck : Prop :=
  ∀ s : State, s.engBusy = false → s.phState = .uninitialized →
    exec .phStateq s = .next (finished 6#4 s) ∧
    (∀ req : BitVec 4, 0 < req.toNat → req.toNat < 8 → exec (.phReq req) s = .next (finished 6#4 s)) ∧
    (∀ kind : BitVec 2, kind ≠ 3#2 → exec (.phAck kind) s = .next (finished 6#4 s)) ∧
    (∀ (length : BitVec 6) (timeout : Tick), exec (.phDatareq length timeout) s = .next (finished 6#4 s)) ∧
    exec .phDatarcv s = .next (finished 6#4 s)

/-- R151 -/
def Obligations.PhysicalInit : Prop :=
  (∀ s : State, s.engBusy = false →
    exec .phInit s = .next (turn { issued .phInit s with
      phState := .uninitialized, busy := false, timerState := .reset, ticks := 0#32, pos := .transportInit 0 })) ∧
  (∀ (s : State) (a : InitAnswer) (rest : List Input), s.engBusy = false → takeInit s.inputs = some (a, rest) →
    (a = .ok → exec .phInit s = .next (finished 0#4
      { s with inputs := rest, phState := .reset, busy := false, timerState := .reset, ticks := 0#32 })) ∧
    (a = .error → exec .phInit s = .next (finished 1#4
      { s with inputs := rest, phState := .uninitialized, busy := false, timerState := .reset, ticks := 0#32 }))) ∧
  (∀ (s : State) (a : InitAnswer) (rest : List Input), s.engBusy = true → s.latched = some .phInit →
    s.pos = .transportInit 0 → takeInit s.inputs = some (a, rest) →
    (a = .ok → engineMove s = some (finished 0#4 { s with inputs := rest, phState := .reset })) ∧
    (a = .error → engineMove s = some (finished 1#4 { s with inputs := rest })))

/-- R152: the exchange, in every device state, and its two failures, whether `PH_RESET` or `PH_REQ` called (`DL_INIT`, which
goes round again, is R187's). -/
def Obligations.PhysicalReset : Prop :=
  (∀ s : State, s.engBusy = false →
    exec .phReset s =
      .next (turn (waiting Config.tSvc (.resetSend 0) (issued .phReset { s with phState := .reset })))) ∧
  (∀ (s : State) (r1 r2 : List Input), s.engBusy = false →
    takeTx s.inputs = some (.ok, r1) → takeRx r1 = some (.ok 0x03#8, r2) →
    exec .phReset s = .next (finished 0#4 (waiting Config.tSvc .idle
      { s with inputs := r2, txs := s.txs ++ [0x01#8], rxs := s.rxs ++ [0x03#8], phState := .normal }))) ∧
  (∀ (s : State) (a : SendAnswer) (rest : List Input), s.engBusy = true → s.latched ≠ some .dlInit →
    s.pos = .resetSend 0 → takeTx s.inputs = some (a, rest) →
    (a = .ok → engineMove s =
      some (waiting Config.tSvc (.resetWait 0) { s with inputs := rest, txs := s.txs ++ [0x01#8] })) ∧
    (a ≠ .ok → expired s → engineMove s = some (finished 3#4 { s with inputs := rest }))) ∧
  (∀ (s : State) (a : RecvAnswer) (rest : List Input), s.engBusy = true → s.latched ≠ some .dlInit →
    s.pos = .resetWait 0 → takeRx s.inputs = some (a, rest) →
    (a = .ok 0x03#8 → engineMove s =
      some (finished 0#4 { s with inputs := rest, rxs := s.rxs ++ [0x03#8], phState := .normal })) ∧
    (a ≠ .ok 0x03#8 → expired s →
      engineMove s = some (finished 2#4 { s with inputs := rest, rxs := s.rxs ++ heard a })))

/-- R153 -/
def Obligations.StateQuery : Prop :=
  (∀ s : State, s.engBusy = false → s.phState = .uninitialized → exec .phStateq s = .next (finished 6#4 s)) ∧
  (∀ s : State, s.engBusy = false → s.phState ≠ .uninitialized →
    exec .phStateq s = .next (turn (waiting Config.tSvc .querySend (issued .phStateq s)))) ∧
  (∀ (s : State) (b : Byte) (r1 r2 : List Input), s.engBusy = false → s.phState ≠ .uninitialized →
    takeTx s.inputs = some (.ok, r1) → takeRx r1 = some (.ok b, r2) → b &&& 0x07#8 = 0x07#8 →
    exec .phStateq s = .next (finished 0#4 (waiting Config.tSvc .idle
      { s with inputs := r2, txs := s.txs ++ [0x02#8], rxs := s.rxs ++ [b], resByte := b }))) ∧
  (∀ (s : State) (a : SendAnswer) (rest : List Input), s.engBusy = true → s.pos = .querySend →
    takeTx s.inputs = some (a, rest) →
    (a = .ok → engineMove s =
      some (waiting Config.tSvc .queryWait { s with inputs := rest, txs := s.txs ++ [0x02#8] })) ∧
    (a ≠ .ok → expired s → engineMove s = some (finished 3#4 { s with inputs := rest }))) ∧
  (∀ (s : State) (a : RecvAnswer) (rest : List Input), s.engBusy = true → s.pos = .queryWait →
    takeRx s.inputs = some (a, rest) →
    (∀ b, a = .ok b → b &&& 0x07#8 = 0x07#8 → engineMove s =
      some (finished 0#4 { s with inputs := rest, rxs := s.rxs ++ [b], resByte := b })) ∧
    ((∀ b, a = .ok b → b &&& 0x07#8 ≠ 0x07#8) → expired s →
      engineMove s = some (finished 2#4 { s with inputs := rest, rxs := s.rxs ++ heard a })))

/-- R154, R73: invalid requests before any state check; `Reset` and `StateQuery` begin as R152 and R153 begin; every other
request sends its one byte, awaits nothing, and has its side effect when the byte has been taken. -/
def Obligations.ServiceRequests : Prop :=
  (∀ (s : State) (req : BitVec 4), s.engBusy = false → 8 ≤ req.toNat →
    exec (.phReq req) s = .next (finished 3#4 s)) ∧
  (∀ (s : State) (req : BitVec 4), s.engBusy = false → 0 < req.toNat → req.toNat < 8 →
    s.phState = .uninitialized → exec (.phReq req) s = .next (finished 6#4 s)) ∧
  (∀ s : State, s.engBusy = false →
    exec (.phReq 0#4) s =
      .next (turn (waiting Config.tSvc (.resetSend 0) (issued (.phReq 0#4) { s with phState := .reset })))) ∧
  (∀ s : State, s.engBusy = false → s.phState ≠ .uninitialized →
    exec (.phReq 1#4) s = .next (turn (waiting Config.tSvc .querySend (issued (.phReq 1#4) s)))) ∧
  (∀ (s : State) (r1 r2 : List Input), s.engBusy = false →
    takeTx s.inputs = some (.ok, r1) → takeRx r1 = some (.ok 0x03#8, r2) →
    exec (.phReq 0#4) s = .next (finished 0#4 (waiting Config.tSvc .idle
      { s with inputs := r2, txs := s.txs ++ [0x01#8], rxs := s.rxs ++ [0x03#8], phState := .normal }))) ∧
  (∀ (s : State) (b : Byte) (r1 r2 : List Input), s.engBusy = false → s.phState ≠ .uninitialized →
    takeTx s.inputs = some (.ok, r1) → takeRx r1 = some (.ok b, r2) → b &&& 0x07#8 = 0x07#8 →
    exec (.phReq 1#4) s = .next (finished 0#4 (waiting Config.tSvc .idle
      { s with inputs := r2, txs := s.txs ++ [0x02#8], rxs := s.rxs ++ [b], resByte := b }))) ∧
  (∀ (s : State) (req : BitVec 4), s.engBusy = false → s.phState ≠ .uninitialized → 2 ≤ req.toNat → req.toNat < 8 →
    exec (.phReq req) s =
      .next (turn (waiting Config.tSvc (.reqSend (Req.ofCode req) (requestByte req)) (issued (.phReq req) s)))) ∧
  (∀ (s : State) (req : BitVec 4) (rest : List Input), s.engBusy = false → s.phState ≠ .uninitialized →
    2 ≤ req.toNat → req.toNat < 8 → takeTx s.inputs = some (.ok, rest) →
    exec (.phReq req) s = .next (finished 0#4 (waiting Config.tSvc .idle
      { s with inputs := rest, txs := s.txs ++ [requestByte req],
               phState := if req = 2#4 then .monitor else s.phState,
               busy := if req = 4#4 then true else if req = 5#4 then false else s.busy }))) ∧
  (∀ (s : State) (req : BitVec 4) (w : Byte) (a : SendAnswer) (rest : List Input), s.engBusy = true →
    s.pos = .reqSend (Req.ofCode req) w → takeTx s.inputs = some (a, rest) →
    (a = .ok → engineMove s = some (finished 0#4
      { s with inputs := rest, txs := s.txs ++ [w],
               phState := if req = 2#4 then .monitor else s.phState,
               busy := if req = 4#4 then true else if req = 5#4 then false else s.busy })) ∧
    (a ≠ .ok → expired s → engineMove s = some (finished 3#4 { s with inputs := rest })))

/-- R155, R82, R74 -/
def Obligations.Acknowledgements : Prop :=
  (∀ s : State, s.engBusy = false → exec (.phAck 3#2) s = .next (finished 3#4 s)) ∧
  (∀ (s : State) (kind : BitVec 2), s.engBusy = false → kind ≠ 3#2 → s.phState = .uninitialized →
    exec (.phAck kind) s = .next (finished 6#4 s)) ∧
  (∀ (s : State) (kind : BitVec 2), s.engBusy = false → kind ≠ 3#2 → s.phState ≠ .uninitialized →
    exec (.phAck kind) s = .next (turn (waiting Config.tAck
      (.ackSend (if kind = 0#2 then .ack else if kind = 1#2 then .busy else .nack)) (issued (.phAck kind) s)))) ∧
  (∀ (s : State) (kind : BitVec 2) (rest : List Input), s.engBusy = false → kind ≠ 3#2 →
    s.phState ≠ .uninitialized → takeTx s.inputs = some (.ok, rest) →
    exec (.phAck kind) s = .next (finished 0#4 (waiting Config.tAck .idle
      { s with inputs := rest,
               txs := s.txs ++ [if kind = 0#2 then 0x11#8 else if kind = 1#2 then 0x12#8 else 0x14#8] }))) ∧
  (∀ (s : State) (kind : BitVec 2) (k : AckKind) (a : SendAnswer) (rest : List Input), s.engBusy = true →
    s.latched = some (.phAck kind) → s.pos = .ackSend k → takeTx s.inputs = some (a, rest) →
    (a = .ok → engineMove s = some (finished 0#4 { s with inputs := rest, txs := s.txs ++ [ackByte k] })) ∧
    (a ≠ .ok → expired s → engineMove s = some (finished 3#4 { s with inputs := rest })))

/-- R156, the whole exchange: `2n` bytes, each send taken at once, then the confirm; one turn of the engine (log 4). -/
def Obligations.DataRequestSendsTheSegments : Prop :=
  ∀ (s : State) (length : BitVec 6) (timeout : Tick) (b : Byte) (rest : List Input), s.engBusy = false →
    s.phState ≠ .uninitialized → 2 ≤ length.toNat → length.toNat ≤ 22 → b &&& 0x0B#8 = 0x0B#8 →
    s.inputs = List.replicate (2 * length.toNat) (.tx .ok) ++ .rx (.ok b) :: rest →
    exec (.phDatareq length timeout) s = .next (finished (confirmCode b) (waiting timeout .idle
      { s with inputs := rest, rxs := s.rxs ++ [b],
               txs := s.txs ++ segments ((List.range length.toNat).map (Memory.read s.txBuf)) }))

/-- R156: the state is checked before the length, the length before any send; then marker and byte, marker and byte, each
a wait of its own with the same timeout; then the confirm. A send that reaches its deadline aborts with no byte more. -/
def Obligations.DataRequest : Prop :=
  (∀ (s : State) (length : BitVec 6) (timeout : Tick), s.engBusy = false →
    (s.phState = .uninitialized → exec (.phDatareq length timeout) s = .next (finished 6#4 s)) ∧
    (s.phState ≠ .uninitialized → length.toNat < 2 ∨ 22 < length.toNat →
      exec (.phDatareq length timeout) s = .next (finished 3#4 s)) ∧
    (s.phState ≠ .uninitialized → 2 ≤ length.toNat → length.toNat ≤ 22 →
      exec (.phDatareq length timeout) s = .next (turn (waiting timeout (.dataMark length.toNat timeout 0)
        (issued (.phDatareq length timeout) s))))) ∧
  (∀ (s : State) (n i : Nat) (timeout : Tick) (rest : List Input), s.engBusy = true → n ≤ 22 → i < n →
    takeTx s.inputs = some (.ok, rest) →
    (s.pos = .dataMark n timeout i → engineMove s = some (waiting timeout (.dataByte n timeout i)
      { s with inputs := rest,
               txs := s.txs ++ [if i = 0 then 0x80#8
                                else if i + 1 = n then 0x80#8 ||| BitVec.ofNat 8 n
                                else 0x80#8 ||| BitVec.ofNat 8 i] })) ∧
    (s.pos = .dataByte n timeout i → engineMove s = some (waiting timeout
      (if i + 1 < n then .dataMark n timeout (i + 1) else .dataConfirm)
      { s with inputs := rest, txs := s.txs ++ [s.txBuf.read i] }))) ∧
  (∀ (s : State) (n i : Nat) (l : BitVec 6) (timeout : Tick) (a : SendAnswer) (rest : List Input), s.engBusy = true →
    s.latched = some (.phDatareq l timeout) → s.pos = .dataMark n timeout i ∨ s.pos = .dataByte n timeout i →
    takeTx s.inputs = some (a, rest) → a ≠ .ok → expired s →
    engineMove s = some (finished 3#4 { s with inputs := rest })) ∧
  (∀ (s : State) (l : BitVec 6) (timeout : Tick) (a : RecvAnswer) (rest : List Input), s.engBusy = true →
    s.latched = some (.phDatareq l timeout) → s.pos = .dataConfirm → takeRx s.inputs = some (a, rest) →
    (∀ b, a = .ok b → b &&& 0x0B#8 = 0x0B#8 →
      engineMove s = some (finished (confirmCode b) { s with inputs := rest, rxs := s.rxs ++ [b] })) ∧
    ((∀ b, a = .ok b → b &&& 0x0B#8 ≠ 0x0B#8) → expired s →
      engineMove s = some (finished 2#4 { s with inputs := rest, rxs := s.rxs ++ heard a })))

/-- R184: inside `DL_SEND` every physical result but success and a failed delivery is a `Timeout`: a send that reaches its
deadline, a confirm that is neither value, a confirm wait that reaches its deadline. -/
def Obligations.SendResultsAreMapped : Prop :=
  ∀ (s : State) (ft at_ : BitVec 1) (prio : BitVec 2) (dst : Addr) (len : BitVec 4) (payload : List Byte),
    s.engBusy = true → s.latched = some (.dlSend ft at_ prio dst len payload) →
    (∀ (n i : Nat) (timeout : Tick) (a : SendAnswer) (rest : List Input),
      s.pos = .dataMark n timeout i ∨ s.pos = .dataByte n timeout i → takeTx s.inputs = some (a, rest) → a ≠ .ok →
      expired s → engineMove s = some (finished 2#4 { s with inputs := rest })) ∧
    (∀ (a : RecvAnswer) (rest : List Input), s.pos = .dataConfirm → takeRx s.inputs = some (a, rest) →
      (a = .ok 0x8B#8 →
        engineMove s = some (finished 0#4 { s with inputs := rest, rxs := s.rxs ++ [0x8B#8] })) ∧
      (a = .ok 0x0B#8 →
        engineMove s = some (finished 5#4 { s with inputs := rest, rxs := s.rxs ++ [0x0B#8] })) ∧
      (∀ b, a = .ok b → b &&& 0x0B#8 = 0x0B#8 → b ≠ 0x8B#8 → b ≠ 0x0B#8 →
        engineMove s = some (finished 2#4 { s with inputs := rest, rxs := s.rxs ++ [b] })) ∧
      ((∀ b, a = .ok b → b &&& 0x0B#8 ≠ 0x0B#8) → expired s →
        engineMove s = some (finished 2#4 { s with inputs := rest, rxs := s.rxs ++ heard a })))

/-- R157: bytes are stored in arrival order until the buffer is full or a byte does not come in time. -/
def Obligations.DataReceive : Prop :=
  (∀ s : State, s.engBusy = false → s.phState ≠ .uninitialized →
    exec .phDatarcv s = .next (turn (waiting Config.tRxByte (.dataRecv 0) (issued .phDatarcv s)))) ∧
  (∀ (s : State) (bytes : List Byte) (rest : List Input), s.engBusy = false → s.phState ≠ .uninitialized →
    s.rxBuf.wf → bytes.length = 22 → s.inputs = bytes.map (fun b => .rx (.ok b)) ++ rest →
    ∃ t, exec .phDatarcv s = .next t ∧
      t = finished 0#4 (waiting Config.tRxByte .idle
        { s with inputs := rest, rxs := s.rxs ++ bytes, rxBuf := t.rxBuf, rxLen := 22#6, resLen := 22#6 }) ∧
      ∀ i, i < 22 → t.rxBuf.read i = bytes.getD i 0#8) ∧
  (∀ (s : State) (n : Nat) (b : Byte) (rest : List Input), s.engBusy = true → s.pos = .dataRecv n → n + 1 < 22 →
    s.rxBuf.wf → takeRx s.inputs = some (.ok b, rest) →
    ∃ t, engineMove s = some t ∧
      t = waiting Config.tRxByte (.dataRecv (n + 1))
        { s with inputs := rest, rxs := s.rxs ++ [b], rxBuf := t.rxBuf } ∧
      t.rxBuf.read n = b ∧ ∀ i, i ≠ n → t.rxBuf.read i = s.rxBuf.read i) ∧
  (∀ (s : State) (b : Byte) (rest : List Input), s.engBusy = true → s.latched = some .phDatarcv →
    s.pos = .dataRecv 21 → s.rxBuf.wf → takeRx s.inputs = some (.ok b, rest) →
    ∃ t, engineMove s = some t ∧
      t = finished 0#4
        { s with inputs := rest, rxs := s.rxs ++ [b], rxBuf := t.rxBuf, rxLen := 22#6, resLen := 22#6 } ∧
      t.rxBuf.read 21 = b ∧ ∀ i, i ≠ 21 → t.rxBuf.read i = s.rxBuf.read i) ∧
  (∀ (s : State) (n : Nat) (a : RecvAnswer) (rest : List Input), s.engBusy = true →
    s.latched = some .phDatarcv → s.pos = .dataRecv n → n < 22 → takeRx s.inputs = some (a, rest) →
    (∀ b, a ≠ .ok b) → expired s →
    engineMove s = some (finished (if n = 0 then 2#4 else 0#4)
      { s with inputs := rest, rxLen := BitVec.ofNat 6 n, resLen := BitVec.ofNat 6 n })) ∧
  (∀ s : State, s.engBusy = false → s.phState = .uninitialized → exec .phDatarcv s = .next (finished 6#4 s))

/-- R160 -/
def Obligations.TxbufWrite : Prop :=
  ∀ (s : State) (idx : BitVec 6) (b : Byte), s.engBusy = false →
    (idx.toNat < 22 → s.txBuf.wf →
      ∃ t, exec (.txbufWr idx b) s = .next t ∧ t = finished 0#4 { s with txBuf := t.txBuf } ∧
        t.txBuf.read idx.toNat = b ∧ ∀ i, i ≠ idx.toNat → t.txBuf.read i = s.txBuf.read i) ∧
    (22 ≤ idx.toNat → exec (.txbufWr idx b) s = .next (finished 3#4 s))

/-- R161 -/
def Obligations.RxbufRead : Prop :=
  ∀ (s : State) (idx : BitVec 6), s.engBusy = false →
    (idx.toNat < 22 →
      exec (.rxbufRd idx) s = .next (finished 0#4 { s with resByte := s.rxBuf.read idx.toNat })) ∧
    (22 ≤ idx.toNat → exec (.rxbufRd idx) s = .next (finished 3#4 s))

/-! ### Data link (R180 to R189) -/

/-- R180, R181: the fold verifies itself, and a change of one byte changes it. -/
def Obligations.ParityVerifiesItself : Prop :=
  (∀ (bytes : List Byte) (c : Byte), bytes ≠ [] → (parity (bytes ++ [c]) = 0#8 ↔ c = parity bytes)) ∧
  (∀ (before after : List Byte) (x y : Byte), x ≠ y →
    parity (before ++ x :: after) ≠ parity (before ++ y :: after))

/-- R182, R183, R184: `DL_SEND` builds the frame before `data_request` checks the state: in `Uninitialized` it completes
with `Timeout`, nothing is sent, and `TXBUF` and `tx_len` hold the frame; bytes above it are not written. -/
def Obligations.FrameIsBuiltBeforeTheStateCheck : Prop :=
  ∀ (s : State) (ft at_ : BitVec 1) (prio : BitVec 2) (dst : Addr) (len : BitVec 4) (payload : List Byte),
    s.engBusy = false → s.phState = .uninitialized → s.txBuf.wf → payload.length = 15 →
    ∃ t, exec (.dlSend ft at_ prio dst len payload) s = .next t ∧
      t = finished 2#4 { s with txBuf := t.txBuf, txLen := BitVec.ofNat 6 (7 + len.toNat) } ∧
      (∀ i, i < 7 + len.toNat →
        t.txBuf.read i = (frameBytes ft at_ prio s.localAddr dst len payload).getD i 0#8) ∧
      ∀ i, 7 + len.toNat ≤ i → t.txBuf.read i = s.txBuf.read i

/-- R182, R183, R184: `DL_SEND` from issue to completion: the frame built from its arguments and `local_addr` goes out
segment by segment, and the confirm decides the code; one turn of the engine (log 4). -/
def Obligations.DlSendSendsTheFrame : Prop :=
  ∀ (s : State) (ft at_ : BitVec 1) (prio : BitVec 2) (dst : Addr) (len : BitVec 4) (payload : List Byte)
    (b : Byte) (rest : List Input),
    s.engBusy = false → s.phState ≠ .uninitialized → s.txBuf.wf → payload.length = 15 → b &&& 0x0B#8 = 0x0B#8 →
    s.inputs = List.replicate (2 * (7 + len.toNat)) (.tx .ok) ++ .rx (.ok b) :: rest →
    ∃ t, exec (.dlSend ft at_ prio dst len payload) s = .next t ∧
      t = finished (if b = 0x8B#8 then 0#4 else if b = 0x0B#8 then 5#4 else 2#4) (waiting Config.tDl .idle
        { s with inputs := rest, rxs := s.rxs ++ [b], txBuf := t.txBuf,
                 txLen := BitVec.ofNat 6 (7 + len.toNat),
                 txs := s.txs ++ segments (frameBytes ft at_ prio s.localAddr dst len payload) }) ∧
      (∀ i, i < 7 + len.toNat →
        t.txBuf.read i = (frameBytes ft at_ prio s.localAddr dst len payload).getD i 0#8) ∧
      ∀ i, 7 + len.toNat ≤ i → t.txBuf.read i = s.txBuf.read i

/-- R185, R214: `DL_RECV` in `Uninitialized` is a `Timeout` with nothing touched but `RES_LEN`; else it receives; and when
the per-byte wait ends with `n` bytes received, the checks follow in their order: an acknowledgement is begun, or the
command is over with no byte sent. -/
def Obligations.DlRecvChecksInOrder : Prop :=
  (∀ s : State, s.engBusy = false → s.phState = .uninitialized →
    ∃ t, exec .dlRecv s = .next t ∧ sameButOut (finished 2#4 { s with resLen := s.rxLen }) t) ∧
  (∀ s : State, s.engBusy = false → s.phState ≠ .uninitialized →
    exec .dlRecv s = .next (turn (waiting Config.tRxByte (.dataRecv 0) (issued .dlRecv s)))) ∧
  (∀ (s : State) (n : Nat) (a : RecvAnswer) (rest : List Input), s.engBusy = true → s.latched = some .dlRecv →
    s.phState ≠ .uninitialized → s.pos = .dataRecv n → n < 22 → takeRx s.inputs = some (a, rest) →
    (∀ b, a ≠ .ok b) → expired s →
    let f := (List.range n).map (Memory.read s.rxBuf)
    let u : State := { s with inputs := rest, rxLen := BitVec.ofNat 6 n }
    (n = 0 → ∃ t, engineMove s = some t ∧
      sameButOut (finished 2#4 { u with resLen := BitVec.ofNat 6 n }) t) ∧
    (n ≠ 0 → (parseResult f s.localAddr s.busy).2 = none → ∃ t, engineMove s = some t ∧
      sameButOut (finished (parseResult f s.localAddr s.busy).1 { u with resLen := BitVec.ofNat 6 n }) t) ∧
    (n ≠ 0 → ∀ k, (parseResult f s.localAddr s.busy).2 = some k →
      engineMove s = some (waiting Config.tAck (.ackSend k) u)))

/-- R185 steps 6 to 9: the acknowledgement of `DL_RECV` ends, sent or not, and the code is the same; `OUT_*` hold the
frame's fields exactly when it was accepted. -/
def Obligations.DlRecvAcknowledges : Prop :=
  ∀ (s : State) (k : AckKind) (a : SendAnswer) (rest : List Input), s.engBusy = true → s.latched = some .dlRecv →
    s.pos = .ackSend k → takeTx s.inputs = some (a, rest) → a = .ok ∨ expired s →
    ∃ t, engineMove s = some t ∧
      sameButOut (finished (ackCode k)
        { s with inputs := rest, resLen := s.rxLen, txs := if a = .ok then s.txs ++ [ackByte k] else s.txs }) t ∧
      (k = .ack → 7 ≤ s.rxLen.toNat →
        (s.rxBuf.read 5).extractLsb' 0 4 = BitVec.ofNat 4 (s.rxLen.toNat - 7) → s.rxLen.toNat ≤ 22 →
        outHolds ((List.range s.rxLen.toNat).map (Memory.read s.rxBuf)) t)

/-- R185 from issue to completion, on a full buffer: `DL_RECV` receives 22 bytes and decides; with the transport taking
the acknowledgement, the command completes with the code of the checks, the acknowledgement byte on the wire, and the
fields in `OUT_*` on success; one turn of the engine (log 4). -/
def Obligations.DlRecvCompletes : Prop :=
  ∀ (s : State) (f : List Byte) (rest : List Input), s.engBusy = false → s.phState ≠ .uninitialized →
    s.rxBuf.wf → f.length = 22 → s.inputs = f.map (fun b => .rx (.ok b)) ++ .tx .ok :: rest →
    ∃ t, exec .dlRecv s = .next t ∧
      sameButOut (finished (parseResult f s.localAddr s.busy).1
        { s with timerState := .running, ticks := 0#32, pollRef := 0#32, pollBudget := t.pollBudget,
                 inputs := t.inputs, txs := t.txs, rxs := s.rxs ++ f, rxBuf := t.rxBuf, rxLen := 22#6,
                 resLen := 22#6 }) t ∧
      (∀ i, i < 22 → t.rxBuf.read i = f.getD i 0#8) ∧
      (∀ k, (parseResult f s.localAddr s.busy).2 = some k →
        t.txs = s.txs ++ [ackByte k] ∧ t.inputs = rest) ∧
      ((parseResult f s.localAddr s.busy).2 = none → t.txs = s.txs ∧ t.inputs = .tx .ok :: rest) ∧
      (parseResult f s.localAddr s.busy = (0#4, some .ack) → outHolds f t)

/-- R186: a frame for another node is an `AddressError` and nothing is sent, whatever its checksum, its length byte and
`busy` are; stated where the per-byte wait ends with `n` bytes, and from issue on a full buffer. -/
def Obligations.AddressFilter : Prop :=
  (∀ (s : State) (n : Nat) (a : RecvAnswer) (rest : List Input), s.engBusy = true → s.latched = some .dlRecv →
    s.pos = .dataRecv n → 7 ≤ n → n < 22 → takeRx s.inputs = some (a, rest) → (∀ b, a ≠ .ok b) → expired s →
    s.rxBuf.read 0 ∈ [0x90#8, 0x94#8, 0x98#8, 0x9C#8] → s.rxBuf.read 3 ++ s.rxBuf.read 4 ≠ s.localAddr →
    ∃ t, engineMove s = some t ∧ t.engBusy = false ∧ t.resErr = 8#4 ∧ t.txs = s.txs) ∧
  (∀ (s : State) (f : List Byte) (rest : List Input), s.engBusy = false → s.phState ≠ .uninitialized →
    s.rxBuf.wf → f.length = 22 → s.inputs = f.map (fun b => .rx (.ok b)) ++ rest →
    f.getD 0 0#8 ∈ [0x90#8, 0x94#8, 0x98#8, 0x9C#8] → f.getD 3 0#8 ++ f.getD 4 0#8 ≠ s.localAddr →
    ∃ t, exec .dlRecv s = .next t ∧ t.engBusy = false ∧ t.resErr = 8#4 ∧ t.txs = s.txs)

/-- R187: the success path from issue, and the bounded rounds, one by one. That a failed round is followed by another
exactly when `k + 1 < N_RETRY`, with `k` as it is before the loop's increment, is the model's reading of the loop (log 21).
`N_RETRY` is open (log 9): where it is 1 no round begins another. -/
def Obligations.DataLinkInit : Prop :=
  (∀ (s : State) (r1 r2 r3 : List Input), s.engBusy = false → takeInit s.inputs = some (.ok, r1) →
    takeTx r1 = some (.ok, r2) → takeRx r2 = some (.ok 0x03#8, r3) →
    exec .dlInit s = .next (finished 0#4 (waiting Config.tSvc .idle
      { s with inputs := r3, txs := s.txs ++ [0x01#8], rxs := s.rxs ++ [0x03#8], phState := .normal,
               busy := false }))) ∧
  (∀ s : State, s.engBusy = false →
    exec .dlInit s = .next (turn { issued .dlInit s with
      phState := .uninitialized, busy := false, timerState := .reset, ticks := 0#32, pos := .transportInit 0 })) ∧
  (∀ (s : State) (k : Nat) (a : InitAnswer) (rest : List Input), s.engBusy = true → s.latched = some .dlInit →
    s.pos = .transportInit k → takeInit s.inputs = some (a, rest) →
    (a = .ok → engineMove s =
      some (waiting Config.tSvc (.resetSend 0) { s with inputs := rest, phState := .reset })) ∧
    (a = .error → k + 1 < Config.nRetry → engineMove s =
      some { s with inputs := rest, phState := .uninitialized, busy := false, timerState := .reset, ticks := 0#32,
                    pos := .transportInit (k + 1) }) ∧
    (a = .error → Config.nRetry ≤ k + 1 → engineMove s = some (finished 1#4 { s with inputs := rest }))) ∧
  (∀ (s : State) (k : Nat) (a : SendAnswer) (rest : List Input), s.engBusy = true → s.latched = some .dlInit →
    s.pos = .resetSend k → takeTx s.inputs = some (a, rest) →
    (a = .ok → engineMove s =
      some (waiting Config.tSvc (.resetWait k) { s with inputs := rest, txs := s.txs ++ [0x01#8] })) ∧
    (a ≠ .ok → expired s → k + 1 < Config.nRetry → engineMove s =
      some (waiting Config.tSvc (.resetSend (k + 1)) { s with inputs := rest, phState := .reset })) ∧
    (a ≠ .ok → expired s → Config.nRetry ≤ k + 1 → engineMove s =
      some (finished 1#4 { s with inputs := rest }))) ∧
  (∀ (s : State) (k : Nat) (a : RecvAnswer) (rest : List Input), s.engBusy = true → s.latched = some .dlInit →
    s.pos = .resetWait k → takeRx s.inputs = some (a, rest) →
    (a = .ok 0x03#8 → engineMove s =
      some (finished 0#4 { s with inputs := rest, rxs := s.rxs ++ [0x03#8], phState := .normal })) ∧
    (a ≠ .ok 0x03#8 → expired s → k + 1 < Config.nRetry → engineMove s =
      some (waiting Config.tSvc (.resetSend (k + 1))
        { s with inputs := rest, rxs := s.rxs ++ heard a, phState := .reset })) ∧
    (a ≠ .ok 0x03#8 → expired s → Config.nRetry ≤ k + 1 → engineMove s =
      some (finished 1#4 { s with inputs := rest, rxs := s.rxs ++ heard a })))

/-- R188 -/
def Obligations.LocalAddress : Prop :=
  ∀ (s : State) (addr : Addr), s.engBusy = false →
    exec (.dlSetaddr addr) s = .next (finished 0#4 { s with localAddr := addr }) ∧
    exec .dlGetaddr s = .next (finished 0#4 { s with resAddr := s.localAddr })

/-- R189: a standard frame built by one node is accepted by the node it is addressed to, with every field back; a
payload byte changed on the way makes it a frame that is answered with NACK. -/
def Obligations.FrameRoundTrip : Prop :=
  ∀ (s : State) (at_ : BitVec 1) (prio : BitVec 2) (src dst : Addr) (len : BitVec 4) (payload : List Byte),
    payload.length = 15 →
    let f := frameBytes 1#1 at_ prio src dst len payload
    frameVerdict f dst false = .answer .ack ∧
    (s.outFields f).outFt = 1#1 ∧ (s.outFields f).outPrio = prio ∧ (s.outFields f).outSrc = src ∧
    (s.outFields f).outDst = dst ∧ (s.outFields f).outAt = at_ ∧ (s.outFields f).outLen = len ∧
    (s.outFields f).outPayload.take len.toNat = payload.take len.toNat ∧
    (∀ (j : Nat) (x : Byte), j < len.toNat → x ≠ f.getD (6 + j) 0#8 →
      frameVerdict (f.set (6 + j) x) dst false = .answer .nack)

/-! ### The wire and frame rows of the opcode table -/

/-- R54, R56, R80 to R82: a byte to the transport is one attempt. On `Ok` it joins `TXS`, on `Busy` and `Error` it does
not; where it is the engine's own attempt, that is one engine step and the engine's turn goes on. The rows are read so
by the model (log 10). -/
def Obligations.WireBytesToTransport : Prop :=
  ∀ (i : Instr) (s : State) (a : SendAnswer) (rest : List Input), toTransport i → i.wellFormed = true →
    takeTx s.inputs = some (a, rest) →
    (s.pendingSend ≠ some (encodeByte i) →
      exec i s = .next { s with inputs := rest,
                                txs := if a = .ok then s.txs ++ [encodeByte i] else s.txs }) ∧
    (s.pendingSend = some (encodeByte i) →
      ∃ u, engineMove s = some u ∧ exec i s = .next (turn u) ∧
        (a = .ok → u.txs = s.txs ++ [encodeByte i]) ∧ (a ≠ .ok → u.txs = s.txs))

/-- R54, R56, R83 to R85: a byte from the transport is a receive attempt answered `Ok(b)`: the engine's, if it is at one;
else it is held as the answer to the next one, which is the model's choice (log 11). -/
def Obligations.WireBytesFromTransport : Prop :=
  ∀ (i : Instr) (s : State), fromTransport i → i.wellFormed = true →
    (s.receiving = true →
      ∃ u, engineMove { s with inputs := .rx (.ok (encodeByte i)) :: s.inputs } = some u ∧
        exec i s = .next (turn u) ∧ u.rxs = s.rxs ++ [encodeByte i]) ∧
    (s.receiving = false →
      exec i s = .next { s with inputs := .rx (.ok (encodeByte i)) :: s.inputs })

/-- R86 to R89, R182: a frame row writes its byte at its place of `TXBUF` and nothing else (log 12). -/
def Obligations.FrameBytesGoToTheirPlaces : Prop :=
  ∀ (i : Instr) (s : State) (p : Nat), framePlace i.slot = some p → i.wellFormed = true → s.txBuf.wf →
    ∃ t, exec i s = .next t ∧ t = { s with txBuf := t.txBuf } ∧ t.txBuf.read p = encodeByte i ∧
      ∀ a, a ≠ p → t.txBuf.read a = s.txBuf.read a

/-! ### Encoding and the step -/

/-- R70 to R72, R80 to R89: decoding the word of a well-formed instruction in its slot gives the instruction back. -/
def Obligations.DecodeOfEncode : Prop :=
  ∀ i : Instr, i.wellFormed = true → decode i.slot (encode i) = .ok i

/-- R71, R81, R85, R86, R91: whatever the decoder accepts is a well-formed instruction of the slot it was read in. -/
def Obligations.DecodedIsWellFormed : Prop :=
  ∀ (slot : Slot) (w : CmdWord) (i : Instr), decode slot w = .ok i → i.wellFormed = true ∧ i.slot = slot

/-- Words written out from R71, R72, R80 to R88. -/
def Obligations.SampleWordsDecode : Prop :=
  decodeTableWord 8 0x05 = some .tTicks ∧
  decodeTableWord 48 0x0000006401_10 = some (.phSend 0x01#8 100#32) ∧
  decodeTableWord 16 0b0000_0100_00100011 = some (.phReq 4#4) ∧
  decodeTableWord 24 0x1101_33 = some (.dlSetaddr 0x1101#16) ∧
  decodeTableWord 8 0b00010100 = some .wAckNack ∧
  (decodeByte .txContinue 0b10_000111#8).toOption = some (.wDataContinue 7#6) ∧
  (decodeByte .rxState 0b01001111#8).toOption = some (.wStateIndication false true false false true) ∧
  (decodeByte .frameControl 0b1_001_01_00#8).toOption = some (.frControl 1#1 1#2)

/-- R29, R61: a step of an idle engine whose next event is a command runs the decoded command. -/
def Obligations.StepRunsTheDecodedCommand : Prop :=
  ∀ (s : State) (w : CmdWord) (rest : List Input) (i : Instr), s.engBusy = false →
    takeEvent s.inputs = some (.command w, rest) → decode .command w = .ok i →
    step s = exec i { s with inputs := rest }

/-- R7: a step of a busy engine whose attempt has an answer is the engine's turn, whichever row of the wire part of the
opcode table that attempt is. -/
def Obligations.StepIsTheEnginesTurn : Prop :=
  ∀ s t : State, engineMove s = some t → step s = .next (turn t)

/-- R7, R59: a turn is engine steps, one after the other, until none can be made, and nothing else. -/
def Obligations.TurnRunsUntilNoAnswer : Prop :=
  ∀ s : State, engineMove (turn s) = none ∧ (∀ t, engineMove s = some t → turn s = turn t) ∧
    (engineMove s = none → turn s = s)

/-- R91 a: an illegal `op` completes at once with `Request` and changes nothing else. -/
def Obligations.IllegalOpCompletesWithRequest : Prop :=
  ∀ (s : State) (w : CmdWord) (rest : List Input), s.engBusy = false →
    takeEvent s.inputs = some (.command w, rest) →
    w.extractLsb' 0 8 ∉ ([0x00#8, 0x01#8, 0x02#8, 0x03#8, 0x04#8, 0x05#8, 0x06#8, 0x10#8, 0x11#8, 0x12#8, 0x13#8,
      0x20#8, 0x21#8, 0x22#8, 0x23#8, 0x24#8, 0x25#8, 0x26#8, 0x27#8, 0x28#8, 0x29#8, 0x30#8, 0x31#8, 0x32#8,
      0x33#8, 0x34#8] : List Byte) →
    step s = .next (finished 3#4 { s with inputs := rest })

/-- R29, R60, R251: a command issued while another is in progress gets no step, and no command's meaning runs. -/
def Obligations.CommandWhileBusyIsRefused : Prop :=
  ∀ s : State, s.engBusy = true →
    (∀ (w : CmdWord) (rest : List Input), engineMove s = none → takeEvent s.inputs = some (.command w, rest) →
      step s = .refused .commandWhileBusy) ∧
    ∀ i : Instr, i.slot = .command → exec i s = .refused .commandWhileBusy

/-! ### Rules of the whole machine -/

/-- R31, R54: no step takes back a byte: both streams only grow. -/
def Obligations.StreamsOnlyGrow : Prop :=
  ∀ s t : State, step s = .next t → s.txs <+: t.txs ∧ s.rxs <+: t.rxs

/-- R22, R34: nothing but `DL_SETADDR` writes `local_addr`. -/
def Obligations.OnlySetaddrWritesTheAddress : Prop :=
  ∀ (i : Instr) (s t : State), exec i s = .next t → (∀ a, i ≠ .dlSetaddr a) → t.localAddr = s.localAddr

/-- R25, R26, R34: `TXBUF` is written by `TXBUF_WR`, `DL_SEND` and the frame bytes it is built from; `RXBUF` by
`data_receive` only. -/
def Obligations.BufferWriters : Prop :=
  ∀ (i : Instr) (s t : State), exec i s = .next t →
    (t.txBuf ≠ s.txBuf → (∃ x b, i = .txbufWr x b) ∨ (∃ f a p d l y, i = .dlSend f a p d l y) ∨
      framePlace i.slot ≠ none) ∧
    (t.rxBuf ≠ s.rxBuf → i = .phDatarcv ∨ i = .dlRecv ∨ (s.engBusy = true ∧ ∃ n, s.pos = .dataRecv n))

/-- R21: what writes `busy`. -/
def Obligations.BusyWriters : Prop :=
  ∀ s t : State, engineMove s = some t → t.busy ≠ s.busy →
    (∃ w, s.pos = .reqSend .activateBusyMode w ∧ t.busy = true) ∨
    (∃ w, s.pos = .reqSend .deactivateBusyMode w ∧ t.busy = false) ∨
    (∃ k, s.pos = .transportInit k ∧ t.busy = false)

/-- R159: every write of `ph_state` by an engine step. -/
def Obligations.DeviceStateMachine : Prop :=
  ∀ s t : State, engineMove s = some t → t.phState ≠ s.phState →
    (∃ k, s.pos = .transportInit k ∧ (t.phState = .reset ∨ t.phState = .uninitialized)) ∨
    (∃ k, s.pos = .resetSend k ∧ t.phState = .reset) ∨
    (∃ k, s.pos = .resetWait k ∧ (t.phState = .normal ∨ t.phState = .reset)) ∨
    (∃ w, s.pos = .reqSend .activateBusMonitor w ∧ t.phState = .monitor)

/-- R20, R159: no step enters `Stopped`. -/
def Obligations.StoppedIsNeverEntered : Prop :=
  ∀ s t : State, step s = .next t → s.phState ≠ .stopped → t.phState ≠ .stopped

/-- R210, R212: a command in progress that completes does so with a code of its row of R212; and so does a command
that completes as it is issued. -/
def Obligations.CompletionCodes : Prop :=
  (∀ (s t : State) (i : Instr), s.EngineInv → s.engBusy = true → s.latched = some i → engineMove s = some t →
    (t.engBusy = true ∧ t.latched = some i) ∨ (t.engBusy = false ∧ t.resErr ∈ codesOf i)) ∧
  (∀ (i : Instr) (s t : State), i.slot = .command → s.engBusy = false → exec i s = .next t →
    (t.engBusy = true ∧ t.latched = some i) ∨ (t.engBusy = false ∧ t.resErr ∈ codesOf i))

/-- R20, R25 to R29, R50, R77, R119, R150: from every state that meets the invariant, every step gives one that does. -/
def Obligations.EveryStepKeepsTheInvariant : Prop :=
  ∀ s t : State, s.Inv → step s = .next t → t.Inv

/-- R33: the state after reset meets the invariant. -/
def Obligations.ResetMeetsTheInvariant : Prop := State.reset.Inv
end

