-- ==== Sys2Proof/Laws/Encoding.lean ====
section
/-! SUPPORT. The numbers behind the words: the payload of `DL_SEND` as a number and back, and the field of a word
that is given as a number. -/

namespace Sys2Proof

/-- A payload of `k` bytes comes back from its number. -/
theorem payloadOfNat_natOfPayload (l : List Byte) {k : Nat} (h : l.length = k) :
    payloadOfNat k (natOfPayload l) = l := by
  induction l generalizing k with
  | nil => subst h; rfl
  | cons b l ih =>
    subst h
    have := b.isLt
    simp only [List.length_cons, payloadOfNat, natOfPayload, List.cons.injEq]
    constructor
    · apply BitVec.eq_of_toNat_eq
      simp
      omega
    · rw [show (b.toNat + 256 * natOfPayload l) / 256 = natOfPayload l by omega]
      exact ih rfl

/-- A payload's number fits in its bytes. -/
theorem natOfPayload_lt (l : List Byte) : natOfPayload l < 256 ^ l.length := by
  induction l with
  | nil => simp [natOfPayload]
  | cons b l ih =>
    have := b.isLt
    simp only [natOfPayload, List.length_cons, pow_succ]
    omega

@[simp] theorem length_payloadOfNat (k n : Nat) : (payloadOfNat k n).length = k := by
  induction k generalizing n with
  | zero => rfl
  | succ k ih => simp [payloadOfNat, ih]

/-- A field of a command word, as a number. -/
theorem toNat_field {n : Nat} (h : n < 2 ^ 152) (lo len : Nat) :
    ((BitVec.ofNat 152 n).extractLsb' lo len).toNat = n / 2 ^ lo % 2 ^ len := by
  rw [BitVec.extractLsb'_toNat, BitVec.toNat_ofNat, Nat.mod_eq_of_lt h, Nat.shiftRight_eq_div_pow]

end Sys2Proof
end

