-- ==== Sys2Proof/Laws/Memory.lean ====
section
/-! SUPPORT. The laws of the buffers: read after write, and that every operation keeps the canonical form. -/

namespace Sys2Proof.Machine

@[simp] theorem Memory.read_nil (a : Nat) : Memory.read [] a = unwritten := rfl

/-- A byte below every entry reads as unwritten. -/
theorem Memory.read_of_lt {m : Memory} {a : Nat} (h : ∀ c ∈ m, a < c.1) : Memory.read m a = unwritten := by
  induction m with
  | nil => rfl
  | cons c m ih =>
    have h0 := h c (by simp)
    rw [Memory.read, if_neg (by omega)]
    exact ih fun d hd => h d (by simp [hd])

/-- Reading a byte that has just been written gives the value written. -/
theorem Memory.read_write_same {m : Memory} (hm : m.wf) (a : Nat) (b : Byte) : (m.write a b).read a = b := by
  induction m with
  | nil => unfold Memory.write; split <;> simp_all [Memory.read]
  | cons c m ih =>
    obtain ⟨k, v⟩ := c
    obtain ⟨hp, hu⟩ := hm
    obtain ⟨hk, hp⟩ := List.pairwise_cons.mp hp
    have hm' : Memory.wf m := ⟨hp, fun d hd => hu d (by simp [hd])⟩
    unfold Memory.write
    split
    · split
      · rw [Memory.read, if_neg (by omega), Memory.read_of_lt]
        · simp_all
        · intro d hd; have := hk d hd; simp at this; omega
      · simp [Memory.read]
    · split
      · split
        · rw [Memory.read_of_lt]
          · simp_all
          · intro d hd; have := hk d hd; simp at this; omega
        · simp [Memory.read]
      · rw [Memory.read, if_neg (by omega)]
        exact ih hm'

/-- A write leaves every other byte alone. -/
theorem Memory.read_write_other {m : Memory} (hm : m.wf) {a a' : Nat} (b : Byte) (h : a' ≠ a) :
    (m.write a b).read a' = m.read a' := by
  induction m with
  | nil => unfold Memory.write; split <;> simp [Memory.read]; omega
  | cons c m ih =>
    obtain ⟨k, v⟩ := c
    obtain ⟨hp, hu⟩ := hm
    obtain ⟨hk, hp⟩ := List.pairwise_cons.mp hp
    have hm' : Memory.wf m := ⟨hp, fun d hd => hu d (by simp [hd])⟩
    unfold Memory.write
    split
    · split
      · rfl
      · rw [Memory.read, if_neg (by omega)]
    · split
      · subst_vars
        split
        · conv_rhs => rw [Memory.read, if_neg (by omega)]
        · simp only [Memory.read]
          rw [if_neg (by omega), if_neg (by omega)]
      · simp only [Memory.read, ih hm']

/-- An entry of a written buffer is the written one or an old one. -/
theorem Memory.mem_write {m : Memory} {a : Nat} {b : Byte} {c : Host.Cell} (h : c ∈ m.write a b) :
    (c = (a, b) ∧ b ≠ unwritten) ∨ c ∈ m := by
  induction m with
  | nil => unfold Memory.write at h; split at h <;> simp_all
  | cons d m ih =>
    obtain ⟨k, v⟩ := d
    unfold Memory.write at h
    split at h
    · split at h
      · exact .inr h
      · rcases List.mem_cons.mp h with h | h
        · exact .inl ⟨h, by assumption⟩
        · exact .inr h
    · split at h
      · split at h
        · exact .inr (by simp [h])
        · rcases List.mem_cons.mp h with h | h
          · exact .inl ⟨h, by assumption⟩
          · exact .inr (by simp [h])
      · rcases List.mem_cons.mp h with h | h
        · exact .inr (by simp [h])
        · rcases ih h with h | h
          · exact .inl h
          · exact .inr (by simp [h])

/-- A write keeps the canonical form. -/
theorem Memory.write_wf {m : Memory} (hm : m.wf) (a : Nat) (b : Byte) : (m.write a b).wf := by
  induction m with
  | nil => unfold Memory.write; split <;> simp_all [Memory.wf]
  | cons c m ih =>
    obtain ⟨k, v⟩ := c
    have hall := hm
    obtain ⟨hp, hu⟩ := hm
    obtain ⟨hk, hp⟩ := List.pairwise_cons.mp hp
    have hm' : Memory.wf m := ⟨hp, fun d hd => hu d (by simp [hd])⟩
    unfold Memory.write
    split
    · split
      · exact hall
      · refine ⟨List.pairwise_cons.mpr ⟨?_, hall.1⟩, ?_⟩
        · intro d hd
          rcases List.mem_cons.mp hd with rfl | hd
          · assumption
          · have := hk d hd; simp at this ⊢; omega
        · intro d hd
          rcases List.mem_cons.mp hd with rfl | hd
          · assumption
          · exact hu d hd
    · split
      · split
        · exact hm'
        · subst_vars
          refine ⟨List.pairwise_cons.mpr ⟨hk, hp⟩, ?_⟩
          intro d hd
          rcases List.mem_cons.mp hd with rfl | hd
          · assumption
          · exact hu d (by simp [hd])
      · obtain ⟨ip, iu⟩ := ih hm'
        refine ⟨List.pairwise_cons.mpr ⟨?_, ip⟩, ?_⟩
        · intro d hd
          rcases Memory.mem_write hd with ⟨rfl, -⟩ | hd
          · simp; omega
          · exact hk d hd
        · intro d hd
          rcases List.mem_cons.mp hd with rfl | hd
          · exact hu _ (by simp)
          · exact iu d hd

/-- A write inside a buffer stays inside it. -/
theorem Memory.write_within {m : Memory} {n a : Nat} (hm : m.within n) (ha : a < n) (b : Byte) :
    (m.write a b).within n := by
  intro c hc
  rcases Memory.mem_write hc with ⟨rfl, -⟩ | hc
  · exact ha
  · exact hm c hc

/-- A buffer of free values is in canonical form. -/
theorem Memory.free_wf (c n : Nat) : (Memory.free c n).wf := by
  induction n with
  | zero => simp [Memory.free, Memory.wf]
  | succ n ih => exact Memory.write_wf ih _ _

/-- A buffer of free values has `n` places. -/
theorem Memory.free_within (c n : Nat) : (Memory.free c n).within n := by
  induction n with
  | zero => simp [Memory.free, Memory.within]
  | succ n ih =>
    refine Memory.write_within (fun c hc => ?_) (by omega) _
    have := ih c hc
    omega

/-- Byte `i` of a buffer of free values is the free value number `c + i`. -/
theorem Memory.read_free (c : Nat) {n i : Nat} (h : i < n) :
    (Memory.free c n).read i = Config.freeValue 8 (c + i) := by
  induction n with
  | zero => omega
  | succ n ih =>
    rw [Memory.free]
    by_cases hi : i = n
    · subst hi; exact Memory.read_write_same (Memory.free_wf _ _) _ _
    · rw [Memory.read_write_other (Memory.free_wf _ _) _ hi]; exact ih (by omega)

@[simp] theorem Memory.length_first (m : Memory) (n : Nat) : (m.first n).length = n := by
  simp [Memory.first]

/-- Byte `i` of the first `n`. -/
theorem Memory.getD_first (m : Memory) {n i : Nat} (h : i < n) (d : Byte) : (m.first n).getD i d = m.read i := by
  simp [Memory.first, List.getD, h]

end Sys2Proof.Machine
end

