-- ==== Sys2Proof/Laws/State.lean ====
section
/-! SUPPORT. One lemma per field per update operation of State, true by rfl, so that no proof unfolds an update. -/

namespace Sys2Proof.Machine

/-! ### `State.setInputs` -/

@[simp] theorem State.setInputs_phState (s : State) (is : List Input) : (s.setInputs is).phState = s.phState := rfl
@[simp] theorem State.setInputs_busy (s : State) (is : List Input) : (s.setInputs is).busy = s.busy := rfl
@[simp] theorem State.setInputs_localAddr (s : State) (is : List Input) : (s.setInputs is).localAddr = s.localAddr := rfl
@[simp] theorem State.setInputs_timerState (s : State) (is : List Input) : (s.setInputs is).timerState = s.timerState := rfl
@[simp] theorem State.setInputs_ticks (s : State) (is : List Input) : (s.setInputs is).ticks = s.ticks := rfl
@[simp] theorem State.setInputs_txBuf (s : State) (is : List Input) : (s.setInputs is).txBuf = s.txBuf := rfl
@[simp] theorem State.setInputs_txLen (s : State) (is : List Input) : (s.setInputs is).txLen = s.txLen := rfl
@[simp] theorem State.setInputs_rxBuf (s : State) (is : List Input) : (s.setInputs is).rxBuf = s.rxBuf := rfl
@[simp] theorem State.setInputs_rxLen (s : State) (is : List Input) : (s.setInputs is).rxLen = s.rxLen := rfl
@[simp] theorem State.setInputs_resErr (s : State) (is : List Input) : (s.setInputs is).resErr = s.resErr := rfl
@[simp] theorem State.setInputs_resByte (s : State) (is : List Input) : (s.setInputs is).resByte = s.resByte := rfl
@[simp] theorem State.setInputs_resLen (s : State) (is : List Input) : (s.setInputs is).resLen = s.resLen := rfl
@[simp] theorem State.setInputs_resTicks (s : State) (is : List Input) : (s.setInputs is).resTicks = s.resTicks := rfl
@[simp] theorem State.setInputs_resTstate (s : State) (is : List Input) : (s.setInputs is).resTstate = s.resTstate := rfl
@[simp] theorem State.setInputs_resPhstate (s : State) (is : List Input) : (s.setInputs is).resPhstate = s.resPhstate := rfl
@[simp] theorem State.setInputs_resFlag (s : State) (is : List Input) : (s.setInputs is).resFlag = s.resFlag := rfl
@[simp] theorem State.setInputs_resRef (s : State) (is : List Input) : (s.setInputs is).resRef = s.resRef := rfl
@[simp] theorem State.setInputs_resBudget (s : State) (is : List Input) : (s.setInputs is).resBudget = s.resBudget := rfl
@[simp] theorem State.setInputs_resAddr (s : State) (is : List Input) : (s.setInputs is).resAddr = s.resAddr := rfl
@[simp] theorem State.setInputs_outFt (s : State) (is : List Input) : (s.setInputs is).outFt = s.outFt := rfl
@[simp] theorem State.setInputs_outPrio (s : State) (is : List Input) : (s.setInputs is).outPrio = s.outPrio := rfl
@[simp] theorem State.setInputs_outSrc (s : State) (is : List Input) : (s.setInputs is).outSrc = s.outSrc := rfl
@[simp] theorem State.setInputs_outDst (s : State) (is : List Input) : (s.setInputs is).outDst = s.outDst := rfl
@[simp] theorem State.setInputs_outAt (s : State) (is : List Input) : (s.setInputs is).outAt = s.outAt := rfl
@[simp] theorem State.setInputs_outLen (s : State) (is : List Input) : (s.setInputs is).outLen = s.outLen := rfl
@[simp] theorem State.setInputs_outPayload (s : State) (is : List Input) : (s.setInputs is).outPayload = s.outPayload := rfl
@[simp] theorem State.setInputs_engBusy (s : State) (is : List Input) : (s.setInputs is).engBusy = s.engBusy := rfl
@[simp] theorem State.setInputs_latched (s : State) (is : List Input) : (s.setInputs is).latched = s.latched := rfl
@[simp] theorem State.setInputs_pos (s : State) (is : List Input) : (s.setInputs is).pos = s.pos := rfl
@[simp] theorem State.setInputs_pollRef (s : State) (is : List Input) : (s.setInputs is).pollRef = s.pollRef := rfl
@[simp] theorem State.setInputs_pollBudget (s : State) (is : List Input) : (s.setInputs is).pollBudget = s.pollBudget := rfl
@[simp] theorem State.setInputs_txs (s : State) (is : List Input) : (s.setInputs is).txs = s.txs := rfl
@[simp] theorem State.setInputs_rxs (s : State) (is : List Input) : (s.setInputs is).rxs = s.rxs := rfl
@[simp] theorem State.setInputs_inputs (s : State) (is : List Input) : (s.setInputs is).inputs = is := rfl
@[simp] theorem State.setInputs_freeCtr (s : State) (is : List Input) : (s.setInputs is).freeCtr = s.freeCtr := rfl

/-! ### `State.writeTx` -/

@[simp] theorem State.writeTx_phState (s : State) (i : Nat) (b : Byte) : (s.writeTx i b).phState = s.phState := rfl
@[simp] theorem State.writeTx_busy (s : State) (i : Nat) (b : Byte) : (s.writeTx i b).busy = s.busy := rfl
@[simp] theorem State.writeTx_localAddr (s : State) (i : Nat) (b : Byte) : (s.writeTx i b).localAddr = s.localAddr := rfl
@[simp] theorem State.writeTx_timerState (s : State) (i : Nat) (b : Byte) : (s.writeTx i b).timerState = s.timerState := rfl
@[simp] theorem State.writeTx_ticks (s : State) (i : Nat) (b : Byte) : (s.writeTx i b).ticks = s.ticks := rfl
@[simp] theorem State.writeTx_txBuf (s : State) (i : Nat) (b : Byte) : (s.writeTx i b).txBuf = Memory.write s.txBuf i b := rfl
@[simp] theorem State.writeTx_txLen (s : State) (i : Nat) (b : Byte) : (s.writeTx i b).txLen = s.txLen := rfl
@[simp] theorem State.writeTx_rxBuf (s : State) (i : Nat) (b : Byte) : (s.writeTx i b).rxBuf = s.rxBuf := rfl
@[simp] theorem State.writeTx_rxLen (s : State) (i : Nat) (b : Byte) : (s.writeTx i b).rxLen = s.rxLen := rfl
@[simp] theorem State.writeTx_resErr (s : State) (i : Nat) (b : Byte) : (s.writeTx i b).resErr = s.resErr := rfl
@[simp] theorem State.writeTx_resByte (s : State) (i : Nat) (b : Byte) : (s.writeTx i b).resByte = s.resByte := rfl
@[simp] theorem State.writeTx_resLen (s : State) (i : Nat) (b : Byte) : (s.writeTx i b).resLen = s.resLen := rfl
@[simp] theorem State.writeTx_resTicks (s : State) (i : Nat) (b : Byte) : (s.writeTx i b).resTicks = s.resTicks := rfl
@[simp] theorem State.writeTx_resTstate (s : State) (i : Nat) (b : Byte) : (s.writeTx i b).resTstate = s.resTstate := rfl
@[simp] theorem State.writeTx_resPhstate (s : State) (i : Nat) (b : Byte) : (s.writeTx i b).resPhstate = s.resPhstate := rfl
@[simp] theorem State.writeTx_resFlag (s : State) (i : Nat) (b : Byte) : (s.writeTx i b).resFlag = s.resFlag := rfl
@[simp] theorem State.writeTx_resRef (s : State) (i : Nat) (b : Byte) : (s.writeTx i b).resRef = s.resRef := rfl
@[simp] theorem State.writeTx_resBudget (s : State) (i : Nat) (b : Byte) : (s.writeTx i b).resBudget = s.resBudget := rfl
@[simp] theorem State.writeTx_resAddr (s : State) (i : Nat) (b : Byte) : (s.writeTx i b).resAddr = s.resAddr := rfl
@[simp] theorem State.writeTx_outFt (s : State) (i : Nat) (b : Byte) : (s.writeTx i b).outFt = s.outFt := rfl
@[simp] theorem State.writeTx_outPrio (s : State) (i : Nat) (b : Byte) : (s.writeTx i b).outPrio = s.outPrio := rfl
@[simp] theorem State.writeTx_outSrc (s : State) (i : Nat) (b : Byte) : (s.writeTx i b).outSrc = s.outSrc := rfl
@[simp] theorem State.writeTx_outDst (s : State) (i : Nat) (b : Byte) : (s.writeTx i b).outDst = s.outDst := rfl
@[simp] theorem State.writeTx_outAt (s : State) (i : Nat) (b : Byte) : (s.writeTx i b).outAt = s.outAt := rfl
@[simp] theorem State.writeTx_outLen (s : State) (i : Nat) (b : Byte) : (s.writeTx i b).outLen = s.outLen := rfl
@[simp] theorem State.writeTx_outPayload (s : State) (i : Nat) (b : Byte) : (s.writeTx i b).outPayload = s.outPayload := rfl
@[simp] theorem State.writeTx_engBusy (s : State) (i : Nat) (b : Byte) : (s.writeTx i b).engBusy = s.engBusy := rfl
@[simp] theorem State.writeTx_latched (s : State) (i : Nat) (b : Byte) : (s.writeTx i b).latched = s.latched := rfl
@[simp] theorem State.writeTx_pos (s : State) (i : Nat) (b : Byte) : (s.writeTx i b).pos = s.pos := rfl
@[simp] theorem State.writeTx_pollRef (s : State) (i : Nat) (b : Byte) : (s.writeTx i b).pollRef = s.pollRef := rfl
@[simp] theorem State.writeTx_pollBudget (s : State) (i : Nat) (b : Byte) : (s.writeTx i b).pollBudget = s.pollBudget := rfl
@[simp] theorem State.writeTx_txs (s : State) (i : Nat) (b : Byte) : (s.writeTx i b).txs = s.txs := rfl
@[simp] theorem State.writeTx_rxs (s : State) (i : Nat) (b : Byte) : (s.writeTx i b).rxs = s.rxs := rfl
@[simp] theorem State.writeTx_inputs (s : State) (i : Nat) (b : Byte) : (s.writeTx i b).inputs = s.inputs := rfl
@[simp] theorem State.writeTx_freeCtr (s : State) (i : Nat) (b : Byte) : (s.writeTx i b).freeCtr = s.freeCtr := rfl

/-! ### `State.writeRx` -/

@[simp] theorem State.writeRx_phState (s : State) (i : Nat) (b : Byte) : (s.writeRx i b).phState = s.phState := rfl
@[simp] theorem State.writeRx_busy (s : State) (i : Nat) (b : Byte) : (s.writeRx i b).busy = s.busy := rfl
@[simp] theorem State.writeRx_localAddr (s : State) (i : Nat) (b : Byte) : (s.writeRx i b).localAddr = s.localAddr := rfl
@[simp] theorem State.writeRx_timerState (s : State) (i : Nat) (b : Byte) : (s.writeRx i b).timerState = s.timerState := rfl
@[simp] theorem State.writeRx_ticks (s : State) (i : Nat) (b : Byte) : (s.writeRx i b).ticks = s.ticks := rfl
@[simp] theorem State.writeRx_txBuf (s : State) (i : Nat) (b : Byte) : (s.writeRx i b).txBuf = s.txBuf := rfl
@[simp] theorem State.writeRx_txLen (s : State) (i : Nat) (b : Byte) : (s.writeRx i b).txLen = s.txLen := rfl
@[simp] theorem State.writeRx_rxBuf (s : State) (i : Nat) (b : Byte) : (s.writeRx i b).rxBuf = Memory.write s.rxBuf i b := rfl
@[simp] theorem State.writeRx_rxLen (s : State) (i : Nat) (b : Byte) : (s.writeRx i b).rxLen = s.rxLen := rfl
@[simp] theorem State.writeRx_resErr (s : State) (i : Nat) (b : Byte) : (s.writeRx i b).resErr = s.resErr := rfl
@[simp] theorem State.writeRx_resByte (s : State) (i : Nat) (b : Byte) : (s.writeRx i b).resByte = s.resByte := rfl
@[simp] theorem State.writeRx_resLen (s : State) (i : Nat) (b : Byte) : (s.writeRx i b).resLen = s.resLen := rfl
@[simp] theorem State.writeRx_resTicks (s : State) (i : Nat) (b : Byte) : (s.writeRx i b).resTicks = s.resTicks := rfl
@[simp] theorem State.writeRx_resTstate (s : State) (i : Nat) (b : Byte) : (s.writeRx i b).resTstate = s.resTstate := rfl
@[simp] theorem State.writeRx_resPhstate (s : State) (i : Nat) (b : Byte) : (s.writeRx i b).resPhstate = s.resPhstate := rfl
@[simp] theorem State.writeRx_resFlag (s : State) (i : Nat) (b : Byte) : (s.writeRx i b).resFlag = s.resFlag := rfl
@[simp] theorem State.writeRx_resRef (s : State) (i : Nat) (b : Byte) : (s.writeRx i b).resRef = s.resRef := rfl
@[simp] theorem State.writeRx_resBudget (s : State) (i : Nat) (b : Byte) : (s.writeRx i b).resBudget = s.resBudget := rfl
@[simp] theorem State.writeRx_resAddr (s : State) (i : Nat) (b : Byte) : (s.writeRx i b).resAddr = s.resAddr := rfl
@[simp] theorem State.writeRx_outFt (s : State) (i : Nat) (b : Byte) : (s.writeRx i b).outFt = s.outFt := rfl
@[simp] theorem State.writeRx_outPrio (s : State) (i : Nat) (b : Byte) : (s.writeRx i b).outPrio = s.outPrio := rfl
@[simp] theorem State.writeRx_outSrc (s : State) (i : Nat) (b : Byte) : (s.writeRx i b).outSrc = s.outSrc := rfl
@[simp] theorem State.writeRx_outDst (s : State) (i : Nat) (b : Byte) : (s.writeRx i b).outDst = s.outDst := rfl
@[simp] theorem State.writeRx_outAt (s : State) (i : Nat) (b : Byte) : (s.writeRx i b).outAt = s.outAt := rfl
@[simp] theorem State.writeRx_outLen (s : State) (i : Nat) (b : Byte) : (s.writeRx i b).outLen = s.outLen := rfl
@[simp] theorem State.writeRx_outPayload (s : State) (i : Nat) (b : Byte) : (s.writeRx i b).outPayload = s.outPayload := rfl
@[simp] theorem State.writeRx_engBusy (s : State) (i : Nat) (b : Byte) : (s.writeRx i b).engBusy = s.engBusy := rfl
@[simp] theorem State.writeRx_latched (s : State) (i : Nat) (b : Byte) : (s.writeRx i b).latched = s.latched := rfl
@[simp] theorem State.writeRx_pos (s : State) (i : Nat) (b : Byte) : (s.writeRx i b).pos = s.pos := rfl
@[simp] theorem State.writeRx_pollRef (s : State) (i : Nat) (b : Byte) : (s.writeRx i b).pollRef = s.pollRef := rfl
@[simp] theorem State.writeRx_pollBudget (s : State) (i : Nat) (b : Byte) : (s.writeRx i b).pollBudget = s.pollBudget := rfl
@[simp] theorem State.writeRx_txs (s : State) (i : Nat) (b : Byte) : (s.writeRx i b).txs = s.txs := rfl
@[simp] theorem State.writeRx_rxs (s : State) (i : Nat) (b : Byte) : (s.writeRx i b).rxs = s.rxs := rfl
@[simp] theorem State.writeRx_inputs (s : State) (i : Nat) (b : Byte) : (s.writeRx i b).inputs = s.inputs := rfl
@[simp] theorem State.writeRx_freeCtr (s : State) (i : Nat) (b : Byte) : (s.writeRx i b).freeCtr = s.freeCtr := rfl

/-! ### `State.pushTx` -/

@[simp] theorem State.pushTx_phState (s : State) (b : Byte) : (s.pushTx b).phState = s.phState := rfl
@[simp] theorem State.pushTx_busy (s : State) (b : Byte) : (s.pushTx b).busy = s.busy := rfl
@[simp] theorem State.pushTx_localAddr (s : State) (b : Byte) : (s.pushTx b).localAddr = s.localAddr := rfl
@[simp] theorem State.pushTx_timerState (s : State) (b : Byte) : (s.pushTx b).timerState = s.timerState := rfl
@[simp] theorem State.pushTx_ticks (s : State) (b : Byte) : (s.pushTx b).ticks = s.ticks := rfl
@[simp] theorem State.pushTx_txBuf (s : State) (b : Byte) : (s.pushTx b).txBuf = s.txBuf := rfl
@[simp] theorem State.pushTx_txLen (s : State) (b : Byte) : (s.pushTx b).txLen = s.txLen := rfl
@[simp] theorem State.pushTx_rxBuf (s : State) (b : Byte) : (s.pushTx b).rxBuf = s.rxBuf := rfl
@[simp] theorem State.pushTx_rxLen (s : State) (b : Byte) : (s.pushTx b).rxLen = s.rxLen := rfl
@[simp] theorem State.pushTx_resErr (s : State) (b : Byte) : (s.pushTx b).resErr = s.resErr := rfl
@[simp] theorem State.pushTx_resByte (s : State) (b : Byte) : (s.pushTx b).resByte = s.resByte := rfl
@[simp] theorem State.pushTx_resLen (s : State) (b : Byte) : (s.pushTx b).resLen = s.resLen := rfl
@[simp] theorem State.pushTx_resTicks (s : State) (b : Byte) : (s.pushTx b).resTicks = s.resTicks := rfl
@[simp] theorem State.pushTx_resTstate (s : State) (b : Byte) : (s.pushTx b).resTstate = s.resTstate := rfl
@[simp] theorem State.pushTx_resPhstate (s : State) (b : Byte) : (s.pushTx b).resPhstate = s.resPhstate := rfl
@[simp] theorem State.pushTx_resFlag (s : State) (b : Byte) : (s.pushTx b).resFlag = s.resFlag := rfl
@[simp] theorem State.pushTx_resRef (s : State) (b : Byte) : (s.pushTx b).resRef = s.resRef := rfl
@[simp] theorem State.pushTx_resBudget (s : State) (b : Byte) : (s.pushTx b).resBudget = s.resBudget := rfl
@[simp] theorem State.pushTx_resAddr (s : State) (b : Byte) : (s.pushTx b).resAddr = s.resAddr := rfl
@[simp] theorem State.pushTx_outFt (s : State) (b : Byte) : (s.pushTx b).outFt = s.outFt := rfl
@[simp] theorem State.pushTx_outPrio (s : State) (b : Byte) : (s.pushTx b).outPrio = s.outPrio := rfl
@[simp] theorem State.pushTx_outSrc (s : State) (b : Byte) : (s.pushTx b).outSrc = s.outSrc := rfl
@[simp] theorem State.pushTx_outDst (s : State) (b : Byte) : (s.pushTx b).outDst = s.outDst := rfl
@[simp] theorem State.pushTx_outAt (s : State) (b : Byte) : (s.pushTx b).outAt = s.outAt := rfl
@[simp] theorem State.pushTx_outLen (s : State) (b : Byte) : (s.pushTx b).outLen = s.outLen := rfl
@[simp] theorem State.pushTx_outPayload (s : State) (b : Byte) : (s.pushTx b).outPayload = s.outPayload := rfl
@[simp] theorem State.pushTx_engBusy (s : State) (b : Byte) : (s.pushTx b).engBusy = s.engBusy := rfl
@[simp] theorem State.pushTx_latched (s : State) (b : Byte) : (s.pushTx b).latched = s.latched := rfl
@[simp] theorem State.pushTx_pos (s : State) (b : Byte) : (s.pushTx b).pos = s.pos := rfl
@[simp] theorem State.pushTx_pollRef (s : State) (b : Byte) : (s.pushTx b).pollRef = s.pollRef := rfl
@[simp] theorem State.pushTx_pollBudget (s : State) (b : Byte) : (s.pushTx b).pollBudget = s.pollBudget := rfl
@[simp] theorem State.pushTx_txs (s : State) (b : Byte) : (s.pushTx b).txs = s.txs ++ [b] := rfl
@[simp] theorem State.pushTx_rxs (s : State) (b : Byte) : (s.pushTx b).rxs = s.rxs := rfl
@[simp] theorem State.pushTx_inputs (s : State) (b : Byte) : (s.pushTx b).inputs = s.inputs := rfl
@[simp] theorem State.pushTx_freeCtr (s : State) (b : Byte) : (s.pushTx b).freeCtr = s.freeCtr := rfl

/-! ### `State.pushRx` -/

@[simp] theorem State.pushRx_phState (s : State) (b : Byte) : (s.pushRx b).phState = s.phState := rfl
@[simp] theorem State.pushRx_busy (s : State) (b : Byte) : (s.pushRx b).busy = s.busy := rfl
@[simp] theorem State.pushRx_localAddr (s : State) (b : Byte) : (s.pushRx b).localAddr = s.localAddr := rfl
@[simp] theorem State.pushRx_timerState (s : State) (b : Byte) : (s.pushRx b).timerState = s.timerState := rfl
@[simp] theorem State.pushRx_ticks (s : State) (b : Byte) : (s.pushRx b).ticks = s.ticks := rfl
@[simp] theorem State.pushRx_txBuf (s : State) (b : Byte) : (s.pushRx b).txBuf = s.txBuf := rfl
@[simp] theorem State.pushRx_txLen (s : State) (b : Byte) : (s.pushRx b).txLen = s.txLen := rfl
@[simp] theorem State.pushRx_rxBuf (s : State) (b : Byte) : (s.pushRx b).rxBuf = s.rxBuf := rfl
@[simp] theorem State.pushRx_rxLen (s : State) (b : Byte) : (s.pushRx b).rxLen = s.rxLen := rfl
@[simp] theorem State.pushRx_resErr (s : State) (b : Byte) : (s.pushRx b).resErr = s.resErr := rfl
@[simp] theorem State.pushRx_resByte (s : State) (b : Byte) : (s.pushRx b).resByte = s.resByte := rfl
@[simp] theorem State.pushRx_resLen (s : State) (b : Byte) : (s.pushRx b).resLen = s.resLen := rfl
@[simp] theorem State.pushRx_resTicks (s : State) (b : Byte) : (s.pushRx b).resTicks = s.resTicks := rfl
@[simp] theorem State.pushRx_resTstate (s : State) (b : Byte) : (s.pushRx b).resTstate = s.resTstate := rfl
@[simp] theorem State.pushRx_resPhstate (s : State) (b : Byte) : (s.pushRx b).resPhstate = s.resPhstate := rfl
@[simp] theorem State.pushRx_resFlag (s : State) (b : Byte) : (s.pushRx b).resFlag = s.resFlag := rfl
@[simp] theorem State.pushRx_resRef (s : State) (b : Byte) : (s.pushRx b).resRef = s.resRef := rfl
@[simp] theorem State.pushRx_resBudget (s : State) (b : Byte) : (s.pushRx b).resBudget = s.resBudget := rfl
@[simp] theorem State.pushRx_resAddr (s : State) (b : Byte) : (s.pushRx b).resAddr = s.resAddr := rfl
@[simp] theorem State.pushRx_outFt (s : State) (b : Byte) : (s.pushRx b).outFt = s.outFt := rfl
@[simp] theorem State.pushRx_outPrio (s : State) (b : Byte) : (s.pushRx b).outPrio = s.outPrio := rfl
@[simp] theorem State.pushRx_outSrc (s : State) (b : Byte) : (s.pushRx b).outSrc = s.outSrc := rfl
@[simp] theorem State.pushRx_outDst (s : State) (b : Byte) : (s.pushRx b).outDst = s.outDst := rfl
@[simp] theorem State.pushRx_outAt (s : State) (b : Byte) : (s.pushRx b).outAt = s.outAt := rfl
@[simp] theorem State.pushRx_outLen (s : State) (b : Byte) : (s.pushRx b).outLen = s.outLen := rfl
@[simp] theorem State.pushRx_outPayload (s : State) (b : Byte) : (s.pushRx b).outPayload = s.outPayload := rfl
@[simp] theorem State.pushRx_engBusy (s : State) (b : Byte) : (s.pushRx b).engBusy = s.engBusy := rfl
@[simp] theorem State.pushRx_latched (s : State) (b : Byte) : (s.pushRx b).latched = s.latched := rfl
@[simp] theorem State.pushRx_pos (s : State) (b : Byte) : (s.pushRx b).pos = s.pos := rfl
@[simp] theorem State.pushRx_pollRef (s : State) (b : Byte) : (s.pushRx b).pollRef = s.pollRef := rfl
@[simp] theorem State.pushRx_pollBudget (s : State) (b : Byte) : (s.pushRx b).pollBudget = s.pollBudget := rfl
@[simp] theorem State.pushRx_txs (s : State) (b : Byte) : (s.pushRx b).txs = s.txs := rfl
@[simp] theorem State.pushRx_rxs (s : State) (b : Byte) : (s.pushRx b).rxs = s.rxs ++ [b] := rfl
@[simp] theorem State.pushRx_inputs (s : State) (b : Byte) : (s.pushRx b).inputs = s.inputs := rfl
@[simp] theorem State.pushRx_freeCtr (s : State) (b : Byte) : (s.pushRx b).freeCtr = s.freeCtr := rfl

/-! ### `State.timerInit` -/

@[simp] theorem State.timerInit_phState (s : State) : (s.timerInit).phState = s.phState := rfl
@[simp] theorem State.timerInit_busy (s : State) : (s.timerInit).busy = s.busy := rfl
@[simp] theorem State.timerInit_localAddr (s : State) : (s.timerInit).localAddr = s.localAddr := rfl
@[simp] theorem State.timerInit_timerState (s : State) : (s.timerInit).timerState = .reset := rfl
@[simp] theorem State.timerInit_ticks (s : State) : (s.timerInit).ticks = 0#32 := rfl
@[simp] theorem State.timerInit_txBuf (s : State) : (s.timerInit).txBuf = s.txBuf := rfl
@[simp] theorem State.timerInit_txLen (s : State) : (s.timerInit).txLen = s.txLen := rfl
@[simp] theorem State.timerInit_rxBuf (s : State) : (s.timerInit).rxBuf = s.rxBuf := rfl
@[simp] theorem State.timerInit_rxLen (s : State) : (s.timerInit).rxLen = s.rxLen := rfl
@[simp] theorem State.timerInit_resErr (s : State) : (s.timerInit).resErr = s.resErr := rfl
@[simp] theorem State.timerInit_resByte (s : State) : (s.timerInit).resByte = s.resByte := rfl
@[simp] theorem State.timerInit_resLen (s : State) : (s.timerInit).resLen = s.resLen := rfl
@[simp] theorem State.timerInit_resTicks (s : State) : (s.timerInit).resTicks = s.resTicks := rfl
@[simp] theorem State.timerInit_resTstate (s : State) : (s.timerInit).resTstate = s.resTstate := rfl
@[simp] theorem State.timerInit_resPhstate (s : State) : (s.timerInit).resPhstate = s.resPhstate := rfl
@[simp] theorem State.timerInit_resFlag (s : State) : (s.timerInit).resFlag = s.resFlag := rfl
@[simp] theorem State.timerInit_resRef (s : State) : (s.timerInit).resRef = s.resRef := rfl
@[simp] theorem State.timerInit_resBudget (s : State) : (s.timerInit).resBudget = s.resBudget := rfl
@[simp] theorem State.timerInit_resAddr (s : State) : (s.timerInit).resAddr = s.resAddr := rfl
@[simp] theorem State.timerInit_outFt (s : State) : (s.timerInit).outFt = s.outFt := rfl
@[simp] theorem State.timerInit_outPrio (s : State) : (s.timerInit).outPrio = s.outPrio := rfl
@[simp] theorem State.timerInit_outSrc (s : State) : (s.timerInit).outSrc = s.outSrc := rfl
@[simp] theorem State.timerInit_outDst (s : State) : (s.timerInit).outDst = s.outDst := rfl
@[simp] theorem State.timerInit_outAt (s : State) : (s.timerInit).outAt = s.outAt := rfl
@[simp] theorem State.timerInit_outLen (s : State) : (s.timerInit).outLen = s.outLen := rfl
@[simp] theorem State.timerInit_outPayload (s : State) : (s.timerInit).outPayload = s.outPayload := rfl
@[simp] theorem State.timerInit_engBusy (s : State) : (s.timerInit).engBusy = s.engBusy := rfl
@[simp] theorem State.timerInit_latched (s : State) : (s.timerInit).latched = s.latched := rfl
@[simp] theorem State.timerInit_pos (s : State) : (s.timerInit).pos = s.pos := rfl
@[simp] theorem State.timerInit_pollRef (s : State) : (s.timerInit).pollRef = s.pollRef := rfl
@[simp] theorem State.timerInit_pollBudget (s : State) : (s.timerInit).pollBudget = s.pollBudget := rfl
@[simp] theorem State.timerInit_txs (s : State) : (s.timerInit).txs = s.txs := rfl
@[simp] theorem State.timerInit_rxs (s : State) : (s.timerInit).rxs = s.rxs := rfl
@[simp] theorem State.timerInit_inputs (s : State) : (s.timerInit).inputs = s.inputs := rfl
@[simp] theorem State.timerInit_freeCtr (s : State) : (s.timerInit).freeCtr = s.freeCtr := rfl

/-! ### `State.timerStart` -/

@[simp] theorem State.timerStart_phState (s : State) : (s.timerStart).phState = s.phState := rfl
@[simp] theorem State.timerStart_busy (s : State) : (s.timerStart).busy = s.busy := rfl
@[simp] theorem State.timerStart_localAddr (s : State) : (s.timerStart).localAddr = s.localAddr := rfl
@[simp] theorem State.timerStart_timerState (s : State) : (s.timerStart).timerState = .running := rfl
@[simp] theorem State.timerStart_ticks (s : State) : (s.timerStart).ticks = 0#32 := rfl
@[simp] theorem State.timerStart_txBuf (s : State) : (s.timerStart).txBuf = s.txBuf := rfl
@[simp] theorem State.timerStart_txLen (s : State) : (s.timerStart).txLen = s.txLen := rfl
@[simp] theorem State.timerStart_rxBuf (s : State) : (s.timerStart).rxBuf = s.rxBuf := rfl
@[simp] theorem State.timerStart_rxLen (s : State) : (s.timerStart).rxLen = s.rxLen := rfl
@[simp] theorem State.timerStart_resErr (s : State) : (s.timerStart).resErr = s.resErr := rfl
@[simp] theorem State.timerStart_resByte (s : State) : (s.timerStart).resByte = s.resByte := rfl
@[simp] theorem State.timerStart_resLen (s : State) : (s.timerStart).resLen = s.resLen := rfl
@[simp] theorem State.timerStart_resTicks (s : State) : (s.timerStart).resTicks = s.resTicks := rfl
@[simp] theorem State.timerStart_resTstate (s : State) : (s.timerStart).resTstate = s.resTstate := rfl
@[simp] theorem State.timerStart_resPhstate (s : State) : (s.timerStart).resPhstate = s.resPhstate := rfl
@[simp] theorem State.timerStart_resFlag (s : State) : (s.timerStart).resFlag = s.resFlag := rfl
@[simp] theorem State.timerStart_resRef (s : State) : (s.timerStart).resRef = s.resRef := rfl
@[simp] theorem State.timerStart_resBudget (s : State) : (s.timerStart).resBudget = s.resBudget := rfl
@[simp] theorem State.timerStart_resAddr (s : State) : (s.timerStart).resAddr = s.resAddr := rfl
@[simp] theorem State.timerStart_outFt (s : State) : (s.timerStart).outFt = s.outFt := rfl
@[simp] theorem State.timerStart_outPrio (s : State) : (s.timerStart).outPrio = s.outPrio := rfl
@[simp] theorem State.timerStart_outSrc (s : State) : (s.timerStart).outSrc = s.outSrc := rfl
@[simp] theorem State.timerStart_outDst (s : State) : (s.timerStart).outDst = s.outDst := rfl
@[simp] theorem State.timerStart_outAt (s : State) : (s.timerStart).outAt = s.outAt := rfl
@[simp] theorem State.timerStart_outLen (s : State) : (s.timerStart).outLen = s.outLen := rfl
@[simp] theorem State.timerStart_outPayload (s : State) : (s.timerStart).outPayload = s.outPayload := rfl
@[simp] theorem State.timerStart_engBusy (s : State) : (s.timerStart).engBusy = s.engBusy := rfl
@[simp] theorem State.timerStart_latched (s : State) : (s.timerStart).latched = s.latched := rfl
@[simp] theorem State.timerStart_pos (s : State) : (s.timerStart).pos = s.pos := rfl
@[simp] theorem State.timerStart_pollRef (s : State) : (s.timerStart).pollRef = s.pollRef := rfl
@[simp] theorem State.timerStart_pollBudget (s : State) : (s.timerStart).pollBudget = s.pollBudget := rfl
@[simp] theorem State.timerStart_txs (s : State) : (s.timerStart).txs = s.txs := rfl
@[simp] theorem State.timerStart_rxs (s : State) : (s.timerStart).rxs = s.rxs := rfl
@[simp] theorem State.timerStart_inputs (s : State) : (s.timerStart).inputs = s.inputs := rfl
@[simp] theorem State.timerStart_freeCtr (s : State) : (s.timerStart).freeCtr = s.freeCtr := rfl

/-! ### `State.timerStop` -/

@[simp] theorem State.timerStop_phState (s : State) : (s.timerStop).phState = s.phState := rfl
@[simp] theorem State.timerStop_busy (s : State) : (s.timerStop).busy = s.busy := rfl
@[simp] theorem State.timerStop_localAddr (s : State) : (s.timerStop).localAddr = s.localAddr := rfl
@[simp] theorem State.timerStop_timerState (s : State) : (s.timerStop).timerState = .paused := rfl
@[simp] theorem State.timerStop_ticks (s : State) : (s.timerStop).ticks = s.ticks := rfl
@[simp] theorem State.timerStop_txBuf (s : State) : (s.timerStop).txBuf = s.txBuf := rfl
@[simp] theorem State.timerStop_txLen (s : State) : (s.timerStop).txLen = s.txLen := rfl
@[simp] theorem State.timerStop_rxBuf (s : State) : (s.timerStop).rxBuf = s.rxBuf := rfl
@[simp] theorem State.timerStop_rxLen (s : State) : (s.timerStop).rxLen = s.rxLen := rfl
@[simp] theorem State.timerStop_resErr (s : State) : (s.timerStop).resErr = s.resErr := rfl
@[simp] theorem State.timerStop_resByte (s : State) : (s.timerStop).resByte = s.resByte := rfl
@[simp] theorem State.timerStop_resLen (s : State) : (s.timerStop).resLen = s.resLen := rfl
@[simp] theorem State.timerStop_resTicks (s : State) : (s.timerStop).resTicks = s.resTicks := rfl
@[simp] theorem State.timerStop_resTstate (s : State) : (s.timerStop).resTstate = s.resTstate := rfl
@[simp] theorem State.timerStop_resPhstate (s : State) : (s.timerStop).resPhstate = s.resPhstate := rfl
@[simp] theorem State.timerStop_resFlag (s : State) : (s.timerStop).resFlag = s.resFlag := rfl
@[simp] theorem State.timerStop_resRef (s : State) : (s.timerStop).resRef = s.resRef := rfl
@[simp] theorem State.timerStop_resBudget (s : State) : (s.timerStop).resBudget = s.resBudget := rfl
@[simp] theorem State.timerStop_resAddr (s : State) : (s.timerStop).resAddr = s.resAddr := rfl
@[simp] theorem State.timerStop_outFt (s : State) : (s.timerStop).outFt = s.outFt := rfl
@[simp] theorem State.timerStop_outPrio (s : State) : (s.timerStop).outPrio = s.outPrio := rfl
@[simp] theorem State.timerStop_outSrc (s : State) : (s.timerStop).outSrc = s.outSrc := rfl
@[simp] theorem State.timerStop_outDst (s : State) : (s.timerStop).outDst = s.outDst := rfl
@[simp] theorem State.timerStop_outAt (s : State) : (s.timerStop).outAt = s.outAt := rfl
@[simp] theorem State.timerStop_outLen (s : State) : (s.timerStop).outLen = s.outLen := rfl
@[simp] theorem State.timerStop_outPayload (s : State) : (s.timerStop).outPayload = s.outPayload := rfl
@[simp] theorem State.timerStop_engBusy (s : State) : (s.timerStop).engBusy = s.engBusy := rfl
@[simp] theorem State.timerStop_latched (s : State) : (s.timerStop).latched = s.latched := rfl
@[simp] theorem State.timerStop_pos (s : State) : (s.timerStop).pos = s.pos := rfl
@[simp] theorem State.timerStop_pollRef (s : State) : (s.timerStop).pollRef = s.pollRef := rfl
@[simp] theorem State.timerStop_pollBudget (s : State) : (s.timerStop).pollBudget = s.pollBudget := rfl
@[simp] theorem State.timerStop_txs (s : State) : (s.timerStop).txs = s.txs := rfl
@[simp] theorem State.timerStop_rxs (s : State) : (s.timerStop).rxs = s.rxs := rfl
@[simp] theorem State.timerStop_inputs (s : State) : (s.timerStop).inputs = s.inputs := rfl
@[simp] theorem State.timerStop_freeCtr (s : State) : (s.timerStop).freeCtr = s.freeCtr := rfl

/-! ### `State.pollBegin` -/

@[simp] theorem State.pollBegin_phState (s : State) (t : Tick) : (s.pollBegin t).phState = s.phState := rfl
@[simp] theorem State.pollBegin_busy (s : State) (t : Tick) : (s.pollBegin t).busy = s.busy := rfl
@[simp] theorem State.pollBegin_localAddr (s : State) (t : Tick) : (s.pollBegin t).localAddr = s.localAddr := rfl
@[simp] theorem State.pollBegin_timerState (s : State) (t : Tick) : (s.pollBegin t).timerState = .running := rfl
@[simp] theorem State.pollBegin_ticks (s : State) (t : Tick) : (s.pollBegin t).ticks = 0#32 := rfl
@[simp] theorem State.pollBegin_txBuf (s : State) (t : Tick) : (s.pollBegin t).txBuf = s.txBuf := rfl
@[simp] theorem State.pollBegin_txLen (s : State) (t : Tick) : (s.pollBegin t).txLen = s.txLen := rfl
@[simp] theorem State.pollBegin_rxBuf (s : State) (t : Tick) : (s.pollBegin t).rxBuf = s.rxBuf := rfl
@[simp] theorem State.pollBegin_rxLen (s : State) (t : Tick) : (s.pollBegin t).rxLen = s.rxLen := rfl
@[simp] theorem State.pollBegin_resErr (s : State) (t : Tick) : (s.pollBegin t).resErr = s.resErr := rfl
@[simp] theorem State.pollBegin_resByte (s : State) (t : Tick) : (s.pollBegin t).resByte = s.resByte := rfl
@[simp] theorem State.pollBegin_resLen (s : State) (t : Tick) : (s.pollBegin t).resLen = s.resLen := rfl
@[simp] theorem State.pollBegin_resTicks (s : State) (t : Tick) : (s.pollBegin t).resTicks = s.resTicks := rfl
@[simp] theorem State.pollBegin_resTstate (s : State) (t : Tick) : (s.pollBegin t).resTstate = s.resTstate := rfl
@[simp] theorem State.pollBegin_resPhstate (s : State) (t : Tick) : (s.pollBegin t).resPhstate = s.resPhstate := rfl
@[simp] theorem State.pollBegin_resFlag (s : State) (t : Tick) : (s.pollBegin t).resFlag = s.resFlag := rfl
@[simp] theorem State.pollBegin_resRef (s : State) (t : Tick) : (s.pollBegin t).resRef = s.resRef := rfl
@[simp] theorem State.pollBegin_resBudget (s : State) (t : Tick) : (s.pollBegin t).resBudget = s.resBudget := rfl
@[simp] theorem State.pollBegin_resAddr (s : State) (t : Tick) : (s.pollBegin t).resAddr = s.resAddr := rfl
@[simp] theorem State.pollBegin_outFt (s : State) (t : Tick) : (s.pollBegin t).outFt = s.outFt := rfl
@[simp] theorem State.pollBegin_outPrio (s : State) (t : Tick) : (s.pollBegin t).outPrio = s.outPrio := rfl
@[simp] theorem State.pollBegin_outSrc (s : State) (t : Tick) : (s.pollBegin t).outSrc = s.outSrc := rfl
@[simp] theorem State.pollBegin_outDst (s : State) (t : Tick) : (s.pollBegin t).outDst = s.outDst := rfl
@[simp] theorem State.pollBegin_outAt (s : State) (t : Tick) : (s.pollBegin t).outAt = s.outAt := rfl
@[simp] theorem State.pollBegin_outLen (s : State) (t : Tick) : (s.pollBegin t).outLen = s.outLen := rfl
@[simp] theorem State.pollBegin_outPayload (s : State) (t : Tick) : (s.pollBegin t).outPayload = s.outPayload := rfl
@[simp] theorem State.pollBegin_engBusy (s : State) (t : Tick) : (s.pollBegin t).engBusy = s.engBusy := rfl
@[simp] theorem State.pollBegin_latched (s : State) (t : Tick) : (s.pollBegin t).latched = s.latched := rfl
@[simp] theorem State.pollBegin_pos (s : State) (t : Tick) : (s.pollBegin t).pos = s.pos := rfl
@[simp] theorem State.pollBegin_pollRef (s : State) (t : Tick) : (s.pollBegin t).pollRef = 0#32 := rfl
@[simp] theorem State.pollBegin_pollBudget (s : State) (t : Tick) : (s.pollBegin t).pollBudget = t := rfl
@[simp] theorem State.pollBegin_txs (s : State) (t : Tick) : (s.pollBegin t).txs = s.txs := rfl
@[simp] theorem State.pollBegin_rxs (s : State) (t : Tick) : (s.pollBegin t).rxs = s.rxs := rfl
@[simp] theorem State.pollBegin_inputs (s : State) (t : Tick) : (s.pollBegin t).inputs = s.inputs := rfl
@[simp] theorem State.pollBegin_freeCtr (s : State) (t : Tick) : (s.pollBegin t).freeCtr = s.freeCtr := rfl

/-! ### `State.pollUpdate` -/

@[simp] theorem State.pollUpdate_phState (s : State) : (s.pollUpdate).phState = s.phState := rfl
@[simp] theorem State.pollUpdate_busy (s : State) : (s.pollUpdate).busy = s.busy := rfl
@[simp] theorem State.pollUpdate_localAddr (s : State) : (s.pollUpdate).localAddr = s.localAddr := rfl
@[simp] theorem State.pollUpdate_timerState (s : State) : (s.pollUpdate).timerState = s.timerState := rfl
@[simp] theorem State.pollUpdate_ticks (s : State) : (s.pollUpdate).ticks = s.ticks := rfl
@[simp] theorem State.pollUpdate_txBuf (s : State) : (s.pollUpdate).txBuf = s.txBuf := rfl
@[simp] theorem State.pollUpdate_txLen (s : State) : (s.pollUpdate).txLen = s.txLen := rfl
@[simp] theorem State.pollUpdate_rxBuf (s : State) : (s.pollUpdate).rxBuf = s.rxBuf := rfl
@[simp] theorem State.pollUpdate_rxLen (s : State) : (s.pollUpdate).rxLen = s.rxLen := rfl
@[simp] theorem State.pollUpdate_resErr (s : State) : (s.pollUpdate).resErr = s.resErr := rfl
@[simp] theorem State.pollUpdate_resByte (s : State) : (s.pollUpdate).resByte = s.resByte := rfl
@[simp] theorem State.pollUpdate_resLen (s : State) : (s.pollUpdate).resLen = s.resLen := rfl
@[simp] theorem State.pollUpdate_resTicks (s : State) : (s.pollUpdate).resTicks = s.resTicks := rfl
@[simp] theorem State.pollUpdate_resTstate (s : State) : (s.pollUpdate).resTstate = s.resTstate := rfl
@[simp] theorem State.pollUpdate_resPhstate (s : State) : (s.pollUpdate).resPhstate = s.resPhstate := rfl
@[simp] theorem State.pollUpdate_resFlag (s : State) : (s.pollUpdate).resFlag = s.resFlag := rfl
@[simp] theorem State.pollUpdate_resRef (s : State) : (s.pollUpdate).resRef = s.resRef := rfl
@[simp] theorem State.pollUpdate_resBudget (s : State) : (s.pollUpdate).resBudget = s.resBudget := rfl
@[simp] theorem State.pollUpdate_resAddr (s : State) : (s.pollUpdate).resAddr = s.resAddr := rfl
@[simp] theorem State.pollUpdate_outFt (s : State) : (s.pollUpdate).outFt = s.outFt := rfl
@[simp] theorem State.pollUpdate_outPrio (s : State) : (s.pollUpdate).outPrio = s.outPrio := rfl
@[simp] theorem State.pollUpdate_outSrc (s : State) : (s.pollUpdate).outSrc = s.outSrc := rfl
@[simp] theorem State.pollUpdate_outDst (s : State) : (s.pollUpdate).outDst = s.outDst := rfl
@[simp] theorem State.pollUpdate_outAt (s : State) : (s.pollUpdate).outAt = s.outAt := rfl
@[simp] theorem State.pollUpdate_outLen (s : State) : (s.pollUpdate).outLen = s.outLen := rfl
@[simp] theorem State.pollUpdate_outPayload (s : State) : (s.pollUpdate).outPayload = s.outPayload := rfl
@[simp] theorem State.pollUpdate_engBusy (s : State) : (s.pollUpdate).engBusy = s.engBusy := rfl
@[simp] theorem State.pollUpdate_latched (s : State) : (s.pollUpdate).latched = s.latched := rfl
@[simp] theorem State.pollUpdate_pos (s : State) : (s.pollUpdate).pos = s.pos := rfl
@[simp] theorem State.pollUpdate_pollRef (s : State) : (s.pollUpdate).pollRef = (hasElapsed s.ticks s.pollRef s.pollBudget).2.1 := rfl
@[simp] theorem State.pollUpdate_pollBudget (s : State) : (s.pollUpdate).pollBudget = (hasElapsed s.ticks s.pollRef s.pollBudget).2.2 := rfl
@[simp] theorem State.pollUpdate_txs (s : State) : (s.pollUpdate).txs = s.txs := rfl
@[simp] theorem State.pollUpdate_rxs (s : State) : (s.pollUpdate).rxs = s.rxs := rfl
@[simp] theorem State.pollUpdate_inputs (s : State) : (s.pollUpdate).inputs = s.inputs := rfl
@[simp] theorem State.pollUpdate_freeCtr (s : State) : (s.pollUpdate).freeCtr = s.freeCtr := rfl

/-! ### `State.beginWait` -/

@[simp] theorem State.beginWait_phState (s : State) (t : Tick) (p : Pos) : (s.beginWait t p).phState = s.phState := rfl
@[simp] theorem State.beginWait_busy (s : State) (t : Tick) (p : Pos) : (s.beginWait t p).busy = s.busy := rfl
@[simp] theorem State.beginWait_localAddr (s : State) (t : Tick) (p : Pos) : (s.beginWait t p).localAddr = s.localAddr := rfl
@[simp] theorem State.beginWait_timerState (s : State) (t : Tick) (p : Pos) : (s.beginWait t p).timerState = .running := rfl
@[simp] theorem State.beginWait_ticks (s : State) (t : Tick) (p : Pos) : (s.beginWait t p).ticks = 0#32 := rfl
@[simp] theorem State.beginWait_txBuf (s : State) (t : Tick) (p : Pos) : (s.beginWait t p).txBuf = s.txBuf := rfl
@[simp] theorem State.beginWait_txLen (s : State) (t : Tick) (p : Pos) : (s.beginWait t p).txLen = s.txLen := rfl
@[simp] theorem State.beginWait_rxBuf (s : State) (t : Tick) (p : Pos) : (s.beginWait t p).rxBuf = s.rxBuf := rfl
@[simp] theorem State.beginWait_rxLen (s : State) (t : Tick) (p : Pos) : (s.beginWait t p).rxLen = s.rxLen := rfl
@[simp] theorem State.beginWait_resErr (s : State) (t : Tick) (p : Pos) : (s.beginWait t p).resErr = s.resErr := rfl
@[simp] theorem State.beginWait_resByte (s : State) (t : Tick) (p : Pos) : (s.beginWait t p).resByte = s.resByte := rfl
@[simp] theorem State.beginWait_resLen (s : State) (t : Tick) (p : Pos) : (s.beginWait t p).resLen = s.resLen := rfl
@[simp] theorem State.beginWait_resTicks (s : State) (t : Tick) (p : Pos) : (s.beginWait t p).resTicks = s.resTicks := rfl
@[simp] theorem State.beginWait_resTstate (s : State) (t : Tick) (p : Pos) : (s.beginWait t p).resTstate = s.resTstate := rfl
@[simp] theorem State.beginWait_resPhstate (s : State) (t : Tick) (p : Pos) : (s.beginWait t p).resPhstate = s.resPhstate := rfl
@[simp] theorem State.beginWait_resFlag (s : State) (t : Tick) (p : Pos) : (s.beginWait t p).resFlag = s.resFlag := rfl
@[simp] theorem State.beginWait_resRef (s : State) (t : Tick) (p : Pos) : (s.beginWait t p).resRef = s.resRef := rfl
@[simp] theorem State.beginWait_resBudget (s : State) (t : Tick) (p : Pos) : (s.beginWait t p).resBudget = s.resBudget := rfl
@[simp] theorem State.beginWait_resAddr (s : State) (t : Tick) (p : Pos) : (s.beginWait t p).resAddr = s.resAddr := rfl
@[simp] theorem State.beginWait_outFt (s : State) (t : Tick) (p : Pos) : (s.beginWait t p).outFt = s.outFt := rfl
@[simp] theorem State.beginWait_outPrio (s : State) (t : Tick) (p : Pos) : (s.beginWait t p).outPrio = s.outPrio := rfl
@[simp] theorem State.beginWait_outSrc (s : State) (t : Tick) (p : Pos) : (s.beginWait t p).outSrc = s.outSrc := rfl
@[simp] theorem State.beginWait_outDst (s : State) (t : Tick) (p : Pos) : (s.beginWait t p).outDst = s.outDst := rfl
@[simp] theorem State.beginWait_outAt (s : State) (t : Tick) (p : Pos) : (s.beginWait t p).outAt = s.outAt := rfl
@[simp] theorem State.beginWait_outLen (s : State) (t : Tick) (p : Pos) : (s.beginWait t p).outLen = s.outLen := rfl
@[simp] theorem State.beginWait_outPayload (s : State) (t : Tick) (p : Pos) : (s.beginWait t p).outPayload = s.outPayload := rfl
@[simp] theorem State.beginWait_engBusy (s : State) (t : Tick) (p : Pos) : (s.beginWait t p).engBusy = s.engBusy := rfl
@[simp] theorem State.beginWait_latched (s : State) (t : Tick) (p : Pos) : (s.beginWait t p).latched = s.latched := rfl
@[simp] theorem State.beginWait_pos (s : State) (t : Tick) (p : Pos) : (s.beginWait t p).pos = p := rfl
@[simp] theorem State.beginWait_pollRef (s : State) (t : Tick) (p : Pos) : (s.beginWait t p).pollRef = 0#32 := rfl
@[simp] theorem State.beginWait_pollBudget (s : State) (t : Tick) (p : Pos) : (s.beginWait t p).pollBudget = t := rfl
@[simp] theorem State.beginWait_txs (s : State) (t : Tick) (p : Pos) : (s.beginWait t p).txs = s.txs := rfl
@[simp] theorem State.beginWait_rxs (s : State) (t : Tick) (p : Pos) : (s.beginWait t p).rxs = s.rxs := rfl
@[simp] theorem State.beginWait_inputs (s : State) (t : Tick) (p : Pos) : (s.beginWait t p).inputs = s.inputs := rfl
@[simp] theorem State.beginWait_freeCtr (s : State) (t : Tick) (p : Pos) : (s.beginWait t p).freeCtr = s.freeCtr := rfl

/-! ### `State.complete` -/

@[simp] theorem State.complete_phState (s : State) (e : ErrCode) : (s.complete e).phState = s.phState := rfl
@[simp] theorem State.complete_busy (s : State) (e : ErrCode) : (s.complete e).busy = s.busy := rfl
@[simp] theorem State.complete_localAddr (s : State) (e : ErrCode) : (s.complete e).localAddr = s.localAddr := rfl
@[simp] theorem State.complete_timerState (s : State) (e : ErrCode) : (s.complete e).timerState = s.timerState := rfl
@[simp] theorem State.complete_ticks (s : State) (e : ErrCode) : (s.complete e).ticks = s.ticks := rfl
@[simp] theorem State.complete_txBuf (s : State) (e : ErrCode) : (s.complete e).txBuf = s.txBuf := rfl
@[simp] theorem State.complete_txLen (s : State) (e : ErrCode) : (s.complete e).txLen = s.txLen := rfl
@[simp] theorem State.complete_rxBuf (s : State) (e : ErrCode) : (s.complete e).rxBuf = s.rxBuf := rfl
@[simp] theorem State.complete_rxLen (s : State) (e : ErrCode) : (s.complete e).rxLen = s.rxLen := rfl
@[simp] theorem State.complete_resErr (s : State) (e : ErrCode) : (s.complete e).resErr = e.code := rfl
@[simp] theorem State.complete_resByte (s : State) (e : ErrCode) : (s.complete e).resByte = s.resByte := rfl
@[simp] theorem State.complete_resLen (s : State) (e : ErrCode) : (s.complete e).resLen = s.resLen := rfl
@[simp] theorem State.complete_resTicks (s : State) (e : ErrCode) : (s.complete e).resTicks = s.resTicks := rfl
@[simp] theorem State.complete_resTstate (s : State) (e : ErrCode) : (s.complete e).resTstate = s.resTstate := rfl
@[simp] theorem State.complete_resPhstate (s : State) (e : ErrCode) : (s.complete e).resPhstate = s.resPhstate := rfl
@[simp] theorem State.complete_resFlag (s : State) (e : ErrCode) : (s.complete e).resFlag = s.resFlag := rfl
@[simp] theorem State.complete_resRef (s : State) (e : ErrCode) : (s.complete e).resRef = s.resRef := rfl
@[simp] theorem State.complete_resBudget (s : State) (e : ErrCode) : (s.complete e).resBudget = s.resBudget := rfl
@[simp] theorem State.complete_resAddr (s : State) (e : ErrCode) : (s.complete e).resAddr = s.resAddr := rfl
@[simp] theorem State.complete_outFt (s : State) (e : ErrCode) : (s.complete e).outFt = s.outFt := rfl
@[simp] theorem State.complete_outPrio (s : State) (e : ErrCode) : (s.complete e).outPrio = s.outPrio := rfl
@[simp] theorem State.complete_outSrc (s : State) (e : ErrCode) : (s.complete e).outSrc = s.outSrc := rfl
@[simp] theorem State.complete_outDst (s : State) (e : ErrCode) : (s.complete e).outDst = s.outDst := rfl
@[simp] theorem State.complete_outAt (s : State) (e : ErrCode) : (s.complete e).outAt = s.outAt := rfl
@[simp] theorem State.complete_outLen (s : State) (e : ErrCode) : (s.complete e).outLen = s.outLen := rfl
@[simp] theorem State.complete_outPayload (s : State) (e : ErrCode) : (s.complete e).outPayload = s.outPayload := rfl
@[simp] theorem State.complete_engBusy (s : State) (e : ErrCode) : (s.complete e).engBusy = false := rfl
@[simp] theorem State.complete_latched (s : State) (e : ErrCode) : (s.complete e).latched = none := rfl
@[simp] theorem State.complete_pos (s : State) (e : ErrCode) : (s.complete e).pos = .idle := rfl
@[simp] theorem State.complete_pollRef (s : State) (e : ErrCode) : (s.complete e).pollRef = s.pollRef := rfl
@[simp] theorem State.complete_pollBudget (s : State) (e : ErrCode) : (s.complete e).pollBudget = s.pollBudget := rfl
@[simp] theorem State.complete_txs (s : State) (e : ErrCode) : (s.complete e).txs = s.txs := rfl
@[simp] theorem State.complete_rxs (s : State) (e : ErrCode) : (s.complete e).rxs = s.rxs := rfl
@[simp] theorem State.complete_inputs (s : State) (e : ErrCode) : (s.complete e).inputs = s.inputs := rfl
@[simp] theorem State.complete_freeCtr (s : State) (e : ErrCode) : (s.complete e).freeCtr = s.freeCtr := rfl

/-! ### `State.latch` -/

@[simp] theorem State.latch_phState (s : State) (i : Instr) : (s.latch i).phState = s.phState := rfl
@[simp] theorem State.latch_busy (s : State) (i : Instr) : (s.latch i).busy = s.busy := rfl
@[simp] theorem State.latch_localAddr (s : State) (i : Instr) : (s.latch i).localAddr = s.localAddr := rfl
@[simp] theorem State.latch_timerState (s : State) (i : Instr) : (s.latch i).timerState = s.timerState := rfl
@[simp] theorem State.latch_ticks (s : State) (i : Instr) : (s.latch i).ticks = s.ticks := rfl
@[simp] theorem State.latch_txBuf (s : State) (i : Instr) : (s.latch i).txBuf = s.txBuf := rfl
@[simp] theorem State.latch_txLen (s : State) (i : Instr) : (s.latch i).txLen = s.txLen := rfl
@[simp] theorem State.latch_rxBuf (s : State) (i : Instr) : (s.latch i).rxBuf = s.rxBuf := rfl
@[simp] theorem State.latch_rxLen (s : State) (i : Instr) : (s.latch i).rxLen = s.rxLen := rfl
@[simp] theorem State.latch_resErr (s : State) (i : Instr) : (s.latch i).resErr = s.resErr := rfl
@[simp] theorem State.latch_resByte (s : State) (i : Instr) : (s.latch i).resByte = s.resByte := rfl
@[simp] theorem State.latch_resLen (s : State) (i : Instr) : (s.latch i).resLen = s.resLen := rfl
@[simp] theorem State.latch_resTicks (s : State) (i : Instr) : (s.latch i).resTicks = s.resTicks := rfl
@[simp] theorem State.latch_resTstate (s : State) (i : Instr) : (s.latch i).resTstate = s.resTstate := rfl
@[simp] theorem State.latch_resPhstate (s : State) (i : Instr) : (s.latch i).resPhstate = s.resPhstate := rfl
@[simp] theorem State.latch_resFlag (s : State) (i : Instr) : (s.latch i).resFlag = s.resFlag := rfl
@[simp] theorem State.latch_resRef (s : State) (i : Instr) : (s.latch i).resRef = s.resRef := rfl
@[simp] theorem State.latch_resBudget (s : State) (i : Instr) : (s.latch i).resBudget = s.resBudget := rfl
@[simp] theorem State.latch_resAddr (s : State) (i : Instr) : (s.latch i).resAddr = s.resAddr := rfl
@[simp] theorem State.latch_outFt (s : State) (i : Instr) : (s.latch i).outFt = s.outFt := rfl
@[simp] theorem State.latch_outPrio (s : State) (i : Instr) : (s.latch i).outPrio = s.outPrio := rfl
@[simp] theorem State.latch_outSrc (s : State) (i : Instr) : (s.latch i).outSrc = s.outSrc := rfl
@[simp] theorem State.latch_outDst (s : State) (i : Instr) : (s.latch i).outDst = s.outDst := rfl
@[simp] theorem State.latch_outAt (s : State) (i : Instr) : (s.latch i).outAt = s.outAt := rfl
@[simp] theorem State.latch_outLen (s : State) (i : Instr) : (s.latch i).outLen = s.outLen := rfl
@[simp] theorem State.latch_outPayload (s : State) (i : Instr) : (s.latch i).outPayload = s.outPayload := rfl
@[simp] theorem State.latch_engBusy (s : State) (i : Instr) : (s.latch i).engBusy = true := rfl
@[simp] theorem State.latch_latched (s : State) (i : Instr) : (s.latch i).latched = some i := rfl
@[simp] theorem State.latch_pos (s : State) (i : Instr) : (s.latch i).pos = s.pos := rfl
@[simp] theorem State.latch_pollRef (s : State) (i : Instr) : (s.latch i).pollRef = s.pollRef := rfl
@[simp] theorem State.latch_pollBudget (s : State) (i : Instr) : (s.latch i).pollBudget = s.pollBudget := rfl
@[simp] theorem State.latch_txs (s : State) (i : Instr) : (s.latch i).txs = s.txs := rfl
@[simp] theorem State.latch_rxs (s : State) (i : Instr) : (s.latch i).rxs = s.rxs := rfl
@[simp] theorem State.latch_inputs (s : State) (i : Instr) : (s.latch i).inputs = s.inputs := rfl
@[simp] theorem State.latch_freeCtr (s : State) (i : Instr) : (s.latch i).freeCtr = s.freeCtr := rfl

/-! ### `State.outUnspecified` -/

@[simp] theorem State.outUnspecified_phState (s : State) : (s.outUnspecified).phState = s.phState := rfl
@[simp] theorem State.outUnspecified_busy (s : State) : (s.outUnspecified).busy = s.busy := rfl
@[simp] theorem State.outUnspecified_localAddr (s : State) : (s.outUnspecified).localAddr = s.localAddr := rfl
@[simp] theorem State.outUnspecified_timerState (s : State) : (s.outUnspecified).timerState = s.timerState := rfl
@[simp] theorem State.outUnspecified_ticks (s : State) : (s.outUnspecified).ticks = s.ticks := rfl
@[simp] theorem State.outUnspecified_txBuf (s : State) : (s.outUnspecified).txBuf = s.txBuf := rfl
@[simp] theorem State.outUnspecified_txLen (s : State) : (s.outUnspecified).txLen = s.txLen := rfl
@[simp] theorem State.outUnspecified_rxBuf (s : State) : (s.outUnspecified).rxBuf = s.rxBuf := rfl
@[simp] theorem State.outUnspecified_rxLen (s : State) : (s.outUnspecified).rxLen = s.rxLen := rfl
@[simp] theorem State.outUnspecified_resErr (s : State) : (s.outUnspecified).resErr = s.resErr := rfl
@[simp] theorem State.outUnspecified_resByte (s : State) : (s.outUnspecified).resByte = s.resByte := rfl
@[simp] theorem State.outUnspecified_resLen (s : State) : (s.outUnspecified).resLen = s.resLen := rfl
@[simp] theorem State.outUnspecified_resTicks (s : State) : (s.outUnspecified).resTicks = s.resTicks := rfl
@[simp] theorem State.outUnspecified_resTstate (s : State) : (s.outUnspecified).resTstate = s.resTstate := rfl
@[simp] theorem State.outUnspecified_resPhstate (s : State) : (s.outUnspecified).resPhstate = s.resPhstate := rfl
@[simp] theorem State.outUnspecified_resFlag (s : State) : (s.outUnspecified).resFlag = s.resFlag := rfl
@[simp] theorem State.outUnspecified_resRef (s : State) : (s.outUnspecified).resRef = s.resRef := rfl
@[simp] theorem State.outUnspecified_resBudget (s : State) : (s.outUnspecified).resBudget = s.resBudget := rfl
@[simp] theorem State.outUnspecified_resAddr (s : State) : (s.outUnspecified).resAddr = s.resAddr := rfl
@[simp] theorem State.outUnspecified_outFt (s : State) : (s.outUnspecified).outFt = Config.freeValue 1 (s.freeCtr + 15) := rfl
@[simp] theorem State.outUnspecified_outPrio (s : State) : (s.outUnspecified).outPrio = Config.freeValue 2 (s.freeCtr + 16) := rfl
@[simp] theorem State.outUnspecified_outSrc (s : State) : (s.outUnspecified).outSrc = Config.freeValue 16 (s.freeCtr + 17) := rfl
@[simp] theorem State.outUnspecified_outDst (s : State) : (s.outUnspecified).outDst = Config.freeValue 16 (s.freeCtr + 18) := rfl
@[simp] theorem State.outUnspecified_outAt (s : State) : (s.outUnspecified).outAt = Config.freeValue 1 (s.freeCtr + 19) := rfl
@[simp] theorem State.outUnspecified_outLen (s : State) : (s.outUnspecified).outLen = Config.freeValue 4 (s.freeCtr + 20) := rfl
@[simp] theorem State.outUnspecified_outPayload (s : State) : (s.outUnspecified).outPayload = payloadWithFree [] s.freeCtr := rfl
@[simp] theorem State.outUnspecified_engBusy (s : State) : (s.outUnspecified).engBusy = s.engBusy := rfl
@[simp] theorem State.outUnspecified_latched (s : State) : (s.outUnspecified).latched = s.latched := rfl
@[simp] theorem State.outUnspecified_pos (s : State) : (s.outUnspecified).pos = s.pos := rfl
@[simp] theorem State.outUnspecified_pollRef (s : State) : (s.outUnspecified).pollRef = s.pollRef := rfl
@[simp] theorem State.outUnspecified_pollBudget (s : State) : (s.outUnspecified).pollBudget = s.pollBudget := rfl
@[simp] theorem State.outUnspecified_txs (s : State) : (s.outUnspecified).txs = s.txs := rfl
@[simp] theorem State.outUnspecified_rxs (s : State) : (s.outUnspecified).rxs = s.rxs := rfl
@[simp] theorem State.outUnspecified_inputs (s : State) : (s.outUnspecified).inputs = s.inputs := rfl
@[simp] theorem State.outUnspecified_freeCtr (s : State) : (s.outUnspecified).freeCtr = s.freeCtr + 21 := rfl

/-! ### `State.outFields` -/

@[simp] theorem State.outFields_phState (s : State) (f : List Byte) : (s.outFields f).phState = s.phState := rfl
@[simp] theorem State.outFields_busy (s : State) (f : List Byte) : (s.outFields f).busy = s.busy := rfl
@[simp] theorem State.outFields_localAddr (s : State) (f : List Byte) : (s.outFields f).localAddr = s.localAddr := rfl
@[simp] theorem State.outFields_timerState (s : State) (f : List Byte) : (s.outFields f).timerState = s.timerState := rfl
@[simp] theorem State.outFields_ticks (s : State) (f : List Byte) : (s.outFields f).ticks = s.ticks := rfl
@[simp] theorem State.outFields_txBuf (s : State) (f : List Byte) : (s.outFields f).txBuf = s.txBuf := rfl
@[simp] theorem State.outFields_txLen (s : State) (f : List Byte) : (s.outFields f).txLen = s.txLen := rfl
@[simp] theorem State.outFields_rxBuf (s : State) (f : List Byte) : (s.outFields f).rxBuf = s.rxBuf := rfl
@[simp] theorem State.outFields_rxLen (s : State) (f : List Byte) : (s.outFields f).rxLen = s.rxLen := rfl
@[simp] theorem State.outFields_resErr (s : State) (f : List Byte) : (s.outFields f).resErr = s.resErr := rfl
@[simp] theorem State.outFields_resByte (s : State) (f : List Byte) : (s.outFields f).resByte = s.resByte := rfl
@[simp] theorem State.outFields_resLen (s : State) (f : List Byte) : (s.outFields f).resLen = s.resLen := rfl
@[simp] theorem State.outFields_resTicks (s : State) (f : List Byte) : (s.outFields f).resTicks = s.resTicks := rfl
@[simp] theorem State.outFields_resTstate (s : State) (f : List Byte) : (s.outFields f).resTstate = s.resTstate := rfl
@[simp] theorem State.outFields_resPhstate (s : State) (f : List Byte) : (s.outFields f).resPhstate = s.resPhstate := rfl
@[simp] theorem State.outFields_resFlag (s : State) (f : List Byte) : (s.outFields f).resFlag = s.resFlag := rfl
@[simp] theorem State.outFields_resRef (s : State) (f : List Byte) : (s.outFields f).resRef = s.resRef := rfl
@[simp] theorem State.outFields_resBudget (s : State) (f : List Byte) : (s.outFields f).resBudget = s.resBudget := rfl
@[simp] theorem State.outFields_resAddr (s : State) (f : List Byte) : (s.outFields f).resAddr = s.resAddr := rfl
@[simp] theorem State.outFields_outFt (s : State) (f : List Byte) : (s.outFields f).outFt = controlFrameType (f.getD 0 0#8) := rfl
@[simp] theorem State.outFields_outPrio (s : State) (f : List Byte) : (s.outFields f).outPrio = controlPriority (f.getD 0 0#8) := rfl
@[simp] theorem State.outFields_outSrc (s : State) (f : List Byte) : (s.outFields f).outSrc = f.getD 1 0#8 ++ f.getD 2 0#8 := rfl
@[simp] theorem State.outFields_outDst (s : State) (f : List Byte) : (s.outFields f).outDst = f.getD 3 0#8 ++ f.getD 4 0#8 := rfl
@[simp] theorem State.outFields_outAt (s : State) (f : List Byte) : (s.outFields f).outAt = addrLenType (f.getD 5 0#8) := rfl
@[simp] theorem State.outFields_outLen (s : State) (f : List Byte) : (s.outFields f).outLen = addrLenLen (f.getD 5 0#8) := rfl
@[simp] theorem State.outFields_outPayload (s : State) (f : List Byte) : (s.outFields f).outPayload = payloadWithFree ((f.drop 6).take (addrLenLen (f.getD 5 0#8)).toNat) s.freeCtr := rfl
@[simp] theorem State.outFields_engBusy (s : State) (f : List Byte) : (s.outFields f).engBusy = s.engBusy := rfl
@[simp] theorem State.outFields_latched (s : State) (f : List Byte) : (s.outFields f).latched = s.latched := rfl
@[simp] theorem State.outFields_pos (s : State) (f : List Byte) : (s.outFields f).pos = s.pos := rfl
@[simp] theorem State.outFields_pollRef (s : State) (f : List Byte) : (s.outFields f).pollRef = s.pollRef := rfl
@[simp] theorem State.outFields_pollBudget (s : State) (f : List Byte) : (s.outFields f).pollBudget = s.pollBudget := rfl
@[simp] theorem State.outFields_txs (s : State) (f : List Byte) : (s.outFields f).txs = s.txs := rfl
@[simp] theorem State.outFields_rxs (s : State) (f : List Byte) : (s.outFields f).rxs = s.rxs := rfl
@[simp] theorem State.outFields_inputs (s : State) (f : List Byte) : (s.outFields f).inputs = s.inputs := rfl
@[simp] theorem State.outFields_freeCtr (s : State) (f : List Byte) : (s.outFields f).freeCtr = s.freeCtr + 21 := rfl

/-! ### `State.tickEvent` -/

/-- A tick changes the counter only, and only while the timer is running (R112). -/
theorem State.tickEvent_eq (s : State) :
    s.tickEvent = { s with ticks := if s.timerState = .running then s.ticks + 1#32 else s.ticks } := by
  unfold State.tickEvent
  split
  · simp_all
  all_goals
    rename_i h
    simp only [h, reduceCtorEq, if_false]
    rw [← h]

end Sys2Proof.Machine
end

