-- ==== Sys2Proof/Laws/Engine.lean ====
section
/-! SUPPORT. Laws of the engine: where answers come from, what one engine step can be, and how a turn is made of
engine steps. -/

namespace Sys2Proof.Machine

/-! ### Answers -/

@[simp] theorem takeTx_tx (a : SendAnswer) (is : List Input) : takeTx (.tx a :: is) = some (a, is) := rfl
@[simp] theorem takeRx_rx (a : RecvAnswer) (is : List Input) : takeRx (.rx a :: is) = some (a, is) := rfl
@[simp] theorem takeInit_init (a : InitAnswer) (is : List Input) : takeInit (.init a :: is) = some (a, is) := rfl

/-- An answer to a send attempt uses up one input. -/
theorem takeTx_length {is rest : List Input} {a : SendAnswer} (h : takeTx is = some (a, rest)) :
    is.length = rest.length + 1 := by
  induction is generalizing rest with
  | nil => simp [takeTx] at h
  | cons i is ih =>
    cases i <;> simp only [takeTx, Option.map_eq_some_iff, Prod.exists, reduceCtorEq] at h
    · simp at h; simp [h]
    all_goals
      obtain ⟨a', r, h1, h2⟩ := h
      simp only [holdBack, Prod.mk.injEq] at h2
      obtain ⟨rfl, rfl⟩ := h2
      simp [ih h1]

/-- An answer to a receive attempt uses up one input. -/
theorem takeRx_length {is rest : List Input} {a : RecvAnswer} (h : takeRx is = some (a, rest)) :
    is.length = rest.length + 1 := by
  induction is generalizing rest with
  | nil => simp [takeRx] at h
  | cons i is ih =>
    cases i <;> simp only [takeRx, Option.map_eq_some_iff, Prod.exists, reduceCtorEq] at h
    case rx => simp at h; simp [h]
    all_goals
      obtain ⟨a', r, h1, h2⟩ := h
      simp only [holdBack, Prod.mk.injEq] at h2
      obtain ⟨rfl, rfl⟩ := h2
      simp [ih h1]

/-- An answer to a transport initialisation uses up one input. -/
theorem takeInit_length {is rest : List Input} {a : InitAnswer} (h : takeInit is = some (a, rest)) :
    is.length = rest.length + 1 := by
  induction is generalizing rest with
  | nil => simp [takeInit] at h
  | cons i is ih =>
    cases i <;> simp only [takeInit, Option.map_eq_some_iff, Prod.exists, reduceCtorEq] at h
    case init => simp at h; simp [h]
    all_goals
      obtain ⟨a', r, h1, h2⟩ := h
      simp only [holdBack, Prod.mk.injEq] at h2
      obtain ⟨rfl, rfl⟩ := h2
      simp [ih h1]

/-! ### One engine step -/

@[simp] theorem engineMove_idle {s : State} (h : s.engBusy = false) : engineMove s = none := by
  simp [engineMove, h]

/-- At a send position an engine step is one iteration of `send_data`. -/
theorem engineMove_send {s : State} {a : SendAnswer} {rest : List Input} (hb : s.engBusy = true)
    (hp : s.pos.attempt = some .send) (h : takeTx s.inputs = some (a, rest)) :
    engineMove s = some (sendStep a (s.setInputs rest)) := by
  simp [engineMove, hb, hp, h]

/-- At a receive position an engine step is one iteration of the receiving wait. -/
theorem engineMove_receive {s : State} {a : RecvAnswer} {rest : List Input} (hb : s.engBusy = true)
    (hp : s.pos.attempt = some .receive) (h : takeRx s.inputs = some (a, rest)) :
    engineMove s = some (receiveStep a (s.setInputs rest)) := by
  simp [engineMove, hb, hp, h]

/-- At `Transport.init()` an engine step is its answer. -/
theorem engineMove_init {s : State} {a : InitAnswer} {rest : List Input} (hb : s.engBusy = true)
    (hp : s.pos.attempt = some .init) (h : takeInit s.inputs = some (a, rest)) :
    engineMove s = some (initStep a (s.setInputs rest)) := by
  simp [engineMove, hb, hp, h]

/-- Everything an engine step can be. -/
theorem engineMove_cases {s t : State} (h : engineMove s = some t) :
    s.engBusy = true ∧
    ((∃ a rest, s.pos.attempt = some .send ∧ takeTx s.inputs = some (a, rest) ∧
        t = sendStep a (s.setInputs rest)) ∨
     (∃ a rest, s.pos.attempt = some .receive ∧ takeRx s.inputs = some (a, rest) ∧
        t = receiveStep a (s.setInputs rest)) ∨
     (∃ a rest, s.pos.attempt = some .init ∧ takeInit s.inputs = some (a, rest) ∧
        t = initStep a (s.setInputs rest))) := by
  unfold engineMove at h
  split at h
  · refine ⟨by assumption, ?_⟩
    split at h
    · simp at h
    · obtain ⟨⟨a, rest⟩, h1, h2⟩ := Option.map_eq_some_iff.mp h
      exact .inl ⟨a, rest, by assumption, h1, h2.symm⟩
    · obtain ⟨⟨a, rest⟩, h1, h2⟩ := Option.map_eq_some_iff.mp h
      exact .inr (.inl ⟨a, rest, by assumption, h1, h2.symm⟩)
    · obtain ⟨⟨a, rest⟩, h1, h2⟩ := Option.map_eq_some_iff.mp h
      exact .inr (.inr ⟨a, rest, by assumption, h1, h2.symm⟩)
  · simp at h

/-- A property that the procedures' operations keep is kept by every engine step. The operations are listed once
here; an invariant proof names what it needs of each. -/
theorem engineMove_induct (P : State → State → Prop) {s t : State} (h : engineMove s = some t)
    (hsend : ∀ a rest, takeTx s.inputs = some (a, rest) → P s (sendStep a (s.setInputs rest)))
    (hrecv : ∀ a rest, takeRx s.inputs = some (a, rest) → P s (receiveStep a (s.setInputs rest)))
    (hinit : ∀ a rest, takeInit s.inputs = some (a, rest) → P s (initStep a (s.setInputs rest))) : P s t := by
  obtain ⟨-, ⟨a, r, -, h1, rfl⟩ | ⟨a, r, -, h1, rfl⟩ | ⟨a, r, -, h1, rfl⟩⟩ := engineMove_cases h
  · exact hsend a r h1
  · exact hrecv a r h1
  · exact hinit a r h1

/-! ### Turns -/

/-- A turn is made of engine steps: what holds before it and is kept by each holds after it. -/
theorem engineRun_induct {P : State → Prop} (hstep : ∀ s t, P s → engineMove s = some t → P t) :
    ∀ n s, P s → P (engineRun n s) := by
  intro n
  induction n with
  | zero => intro s hs; exact hs
  | succ n ih =>
    intro s hs
    unfold engineRun
    split
    · exact hs
    · exact ih _ (hstep _ _ hs (by assumption))

theorem turn_induct {P : State → Prop} (hstep : ∀ s t, P s → engineMove s = some t → P t) (s : State) (hs : P s) :
    P (turn s) := engineRun_induct hstep _ s hs

/-- With no engine step to make, a turn changes nothing. -/
theorem turn_of_none {s : State} (h : engineMove s = none) : turn s = s := by
  unfold turn
  cases s.inputs.length <;> simp [engineRun, h]

/-- An idle engine's turn changes nothing. -/
@[simp] theorem turn_complete (s : State) (e : ErrCode) : turn (s.complete e) = s.complete e :=
  turn_of_none (engineMove_idle rfl)

theorem turn_idle {s : State} (h : s.engBusy = false) : turn s = s := turn_of_none (engineMove_idle h)

/-! ### Issuing a command -/

theorem issue_busy {i : Instr} {f : State → State} {s : State} (h : s.engBusy = true) :
    issue i f s = .refused .commandWhileBusy := by simp [issue, h]

theorem issue_idle {i : Instr} {f : State → State} {s : State} (h : s.engBusy = false) :
    issue i f s = .next (turn (f (s.latch i))) := by simp [issue, h]

/-- What `issue` answers when it gives a next state. -/
theorem issue_next {i : Instr} {f : State → State} {s t : State} (h : issue i f s = .next t) :
    s.engBusy = false ∧ t = turn (f (s.latch i)) := by
  unfold issue at h
  split at h
  · simp at h
  · simp at h
    exact ⟨by simp_all, h.symm⟩

end Sys2Proof.Machine
end

