-- ==== Sys2Proof/Laws/Frame.lean ====
section
/-! SUPPORT. Laws of the frame builder and of the parity fold: the builder writes the bytes of R86 to R89 at their
places and nothing else. -/

namespace Sys2Proof.Machine

/-! ### Bytes written one after the other into `TXBUF` -/

/-- The bytes `l` written into `TXBUF` from place `i` on. -/
def writeTxFrom : Nat → List Byte → State → State
  | _, [], s => s
  | i, b :: l, s => writeTxFrom (i + 1) l (s.writeTx i b)

/-- What such a write does: the bytes stand at their places, every other byte of `TXBUF` and all other state stay. -/
theorem writeTxFrom_spec (l : List Byte) (i : Nat) (s : State) (h : s.txBuf.wf) :
    writeTxFrom i l s = { s with txBuf := (writeTxFrom i l s).txBuf } ∧ (writeTxFrom i l s).txBuf.wf ∧
    (∀ k, k < l.length → (writeTxFrom i l s).txBuf.read (i + k) = l.getD k 0#8) ∧
    (∀ k, k < i ∨ i + l.length ≤ k → (writeTxFrom i l s).txBuf.read k = s.txBuf.read k) := by
  induction l generalizing i s with
  | nil => exact ⟨rfl, h, by simp, fun _ _ => rfl⟩
  | cons b l ih =>
    obtain ⟨h1, h2, h3, h4⟩ := ih (i + 1) (s.writeTx i b) (Memory.write_wf h i b)
    refine ⟨?_, h2, ?_, ?_⟩
    · rw [writeTxFrom, h1]; rfl
    · intro k hk
      cases k with
      | zero => rw [writeTxFrom, h4 _ (by omega)]; exact Memory.read_write_same h _ _
      | succ k =>
        have := h3 k (by simpa using hk)
        rw [show i + 1 + k = i + (k + 1) by omega] at this
        rw [writeTxFrom, this]; simp
    · intro k hk
      simp only [List.length_cons] at hk
      rw [writeTxFrom, h4 _ (by omega)]
      exact Memory.read_write_other h _ (by omega)

/-- The payload writes are such a write from place 6 on. -/
theorem putPayloadFrom_eq (l : List Byte) (j : Nat) (s : State) : putPayloadFrom j l s = writeTxFrom (6 + j) l s := by
  induction l generalizing j s with
  | nil => rfl
  | cons b l ih => rw [putPayloadFrom, ih]; rfl

/-! ### The builder (R182) -/

/-- The bytes of a frame before its checksum (R86 to R88). -/
def bodyBytes (frameType addressType : BitVec 1) (priority : BitVec 2) (source destination : Addr)
    (payloadLen : BitVec 4) (payload : List Byte) : List Byte :=
  [controlByte frameType priority, source.extractLsb' 8 8, source.extractLsb' 0 8, destination.extractLsb' 8 8,
    destination.extractLsb' 0 8, addrLenByte addressType payloadLen] ++ payload.take payloadLen.toNat

theorem length_bodyBytes (f a : BitVec 1) (p : BitVec 2) (src dst : Addr) (l : BitVec 4) {y : List Byte}
    (hy : y.length = 15) : (bodyBytes f a p src dst l y).length = 6 + l.toNat := by
  have := l.isLt
  simp [bodyBytes]
  omega

/-- The builder writes the bytes before the checksum from place 0 on. -/
theorem buildBody_eq (f a : BitVec 1) (p : BitVec 2) (d : Addr) (l : BitVec 4) (y : List Byte) (s : State) :
    buildBody f a p d l y s = writeTxFrom 0 (bodyBytes f a p s.localAddr d l y) s := by
  simp only [buildBody, putPayloadFrom_eq]
  rfl

/-- Everything `build` does: the bytes and their fold stand at places `0 .. 6 + L`, `tx_len` is `7 + L`, nothing else
changes. -/
theorem build_spec (f a : BitVec 1) (p : BitVec 2) (d : Addr) (l : BitVec 4) {y : List Byte} (hy : y.length = 15)
    {s : State} (h : s.txBuf.wf) :
    let t := build f a p d l y s
    let body := bodyBytes f a p s.localAddr d l y
    t = { s with txBuf := t.txBuf, txLen := 7#6 + l.setWidth 6 } ∧ t.txBuf.wf ∧
    (∀ k, k < 7 + l.toNat → t.txBuf.read k = (body ++ [parity body]).getD k 0#8) ∧
    (∀ k, 7 + l.toNat ≤ k → t.txBuf.read k = s.txBuf.read k) := by
  intro t body
  obtain ⟨h1, h2, h3, h4⟩ := writeTxFrom_spec body 0 s h
  have hb : body.length = 6 + l.toNat := length_bodyBytes f a p s.localAddr d l hy
  have hfirst : (writeTxFrom 0 body s).txBuf.first (6 + l.toNat) = body := by
    apply List.ext_getElem
    · simp [hb]
    · intro k hk1 hk2
      have := h3 k hk2
      simp only [Nat.zero_add] at this
      simp [Memory.first, this, List.getD, hk2]
  have ht : t = { (writeTxFrom 0 body s).writeTx (6 + l.toNat) (parity body) with txLen := 7#6 + l.setWidth 6 } := by
    simp only [t, build, buildBody_eq, putChecksum]
    rw [hfirst]
  rw [ht]
  refine ⟨?_, Memory.write_wf h2 _ _, ?_, ?_⟩
  · simp only [State.writeTx]
    rw [h1]
  · intro k hk
    by_cases he : k = 6 + l.toNat
    · subst he
      refine (Memory.read_write_same h2 _ _).trans ?_
      simp [List.getD, hb]
    · refine (Memory.read_write_other h2 _ he).trans ?_
      have := h3 k (by omega)
      rw [Nat.zero_add] at this
      rw [this]
      simp [List.getD, List.getElem?_append, hb, show k < 6 + l.toNat by omega]
  · intro k hk
    refine (Memory.read_write_other h2 _ (by omega)).trans ?_
    exact h4 k (by omega)

/-! ### The fold (R180) -/

/-- Starting the fold from zero gives the same. -/
theorem parity_eq_foldl (l : List Byte) : parity l = l.foldl (fun p x => p ^^^ x) 0#8 := by
  cases l <;> simp [parity]

theorem foldl_xor (l : List Byte) (c : Byte) :
    l.foldl (fun p x => p ^^^ x) c = c ^^^ l.foldl (fun p x => p ^^^ x) 0#8 := by
  induction l generalizing c with
  | nil => simp
  | cons b l ih => rw [List.foldl_cons, List.foldl_cons, ih, ih (0#8 ^^^ b)]; simp [BitVec.xor_assoc]

/-- The fold of two lists of bytes put together. -/
theorem parity_append (l m : List Byte) : parity (l ++ m) = parity l ^^^ parity m := by
  rw [parity_eq_foldl, parity_eq_foldl, parity_eq_foldl, List.foldl_append, foldl_xor]

end Sys2Proof.Machine
end

