-- ==== Sys2Proof/Laws/Frames.lean ====
section
/-! SUPPORT. What the engine's procedures never touch, said once for each of them: the local address, `TXBUF`, `tx_len`,
the result registers of the timer and of the pure readers, the two streams and the inputs. -/

namespace Sys2Proof.Machine

/-- The state the engine's procedures leave alone between two transport attempts. -/
structure EngineFrame (s t : State) : Prop where
  localAddr : t.localAddr = s.localAddr
  txBuf : t.txBuf = s.txBuf
  txLen : t.txLen = s.txLen
  resTicks : t.resTicks = s.resTicks
  resTstate : t.resTstate = s.resTstate
  resPhstate : t.resPhstate = s.resPhstate
  resFlag : t.resFlag = s.resFlag
  resRef : t.resRef = s.resRef
  resBudget : t.resBudget = s.resBudget
  resAddr : t.resAddr = s.resAddr
  txs : t.txs = s.txs
  rxs : t.rxs = s.rxs
  inputs : t.inputs = s.inputs

namespace EngineFrame

theorem refl (s : State) : EngineFrame s s := by constructor <;> rfl

theorem trans {s t u : State} (h : EngineFrame s t) (k : EngineFrame t u) : EngineFrame s u := by
  constructor
  · rw [k.localAddr, h.localAddr]
  · rw [k.txBuf, h.txBuf]
  · rw [k.txLen, h.txLen]
  · rw [k.resTicks, h.resTicks]
  · rw [k.resTstate, h.resTstate]
  · rw [k.resPhstate, h.resPhstate]
  · rw [k.resFlag, h.resFlag]
  · rw [k.resRef, h.resRef]
  · rw [k.resBudget, h.resBudget]
  · rw [k.resAddr, h.resAddr]
  · rw [k.txs, h.txs]
  · rw [k.rxs, h.rxs]
  · rw [k.inputs, h.inputs]

end EngineFrame

theorem complete_frame (e : ErrCode) (s : State) : EngineFrame s (s.complete e) := by constructor <;> rfl

theorem beginWait_frame (t : Tick) (p : Pos) (s : State) : EngineFrame s (s.beginWait t p) := by constructor <;> rfl

theorem pollUpdate_frame (s : State) : EngineFrame s s.pollUpdate := by constructor <;> rfl

theorem writeRx_frame (i : Nat) (b : Byte) (s : State) : EngineFrame s (s.writeRx i b) := by constructor <;> rfl

theorem outUnspecified_frame (s : State) : EngineFrame s s.outUnspecified := by constructor <;> rfl

theorem outFields_frame (f : List Byte) (s : State) : EngineFrame s (s.outFields f) := by constructor <;> rfl

theorem enterPhReset_frame (k : Nat) (s : State) : EngineFrame s (enterPhReset k s) := by constructor <;> rfl

theorem enterPhInit_frame (k : Nat) (s : State) : EngineFrame s (enterPhInit k s) := by constructor <;> rfl

theorem returnPhReset_frame (k : Nat) (e : ErrCode) (s : State) : EngineFrame s (returnPhReset k e s) := by
  unfold returnPhReset
  repeat' split
  all_goals first | exact complete_frame _ _ | exact enterPhReset_frame _ _

theorem returnPhInit_frame (k : Nat) (e : ErrCode) (s : State) : EngineFrame s (returnPhInit k e s) := by
  unfold returnPhInit
  repeat' split
  all_goals first | exact complete_frame _ _ | exact enterPhReset_frame _ _ | exact enterPhInit_frame _ _

theorem returnDataRequest_frame (e : ErrCode) (s : State) : EngineFrame s (returnDataRequest e s) := by
  unfold returnDataRequest
  split <;> exact complete_frame _ _

theorem finishDlRecv_frame (e : ErrCode) (s : State) : EngineFrame s (finishDlRecv e s) := by
  unfold finishDlRecv
  split <;> constructor <;> rfl

theorem returnPhAck_frame (kind : AckKind) (e : ErrCode) (s : State) : EngineFrame s (returnPhAck kind e s) := by
  unfold returnPhAck
  split
  · exact finishDlRecv_frame _ _
  · exact complete_frame _ _

theorem enterPhAck_frame (kind : AckKind) (s : State) : EngineFrame s (enterPhAck kind s) := by
  unfold enterPhAck
  split
  · exact returnPhAck_frame _ _ _
  · exact beginWait_frame _ _ _

theorem parseFrame_frame (s : State) : EngineFrame s (parseFrame s) := by
  unfold parseFrame
  split
  · exact finishDlRecv_frame _ _
  · exact enterPhAck_frame _ _

theorem returnDataReceive_frame (e : ErrCode) (s : State) : EngineFrame s (returnDataReceive e s) := by
  unfold returnDataReceive
  split
  · split
    · exact parseFrame_frame _
    · exact finishDlRecv_frame _ _
  · split <;> constructor <;> rfl

theorem endDataReceive_frame (n : Nat) (s : State) : EngineFrame s (endDataReceive n s) :=
  .trans (t := { s with rxLen := BitVec.ofNat 6 n }) (by constructor <;> rfl) (returnDataReceive_frame _ _)

theorem enterDataReceive_frame (s : State) : EngineFrame s (enterDataReceive s) := by
  unfold enterDataReceive
  split
  · exact returnDataReceive_frame _ _
  · exact beginWait_frame _ _ _

theorem enterDataRequest_frame (n : BitVec 6) (t : Tick) (s : State) : EngineFrame s (enterDataRequest n t s) := by
  unfold enterDataRequest
  repeat' split
  all_goals first | exact returnDataRequest_frame _ _ | exact beginWait_frame _ _ _

theorem enterStateQuery_frame (s : State) : EngineFrame s (enterStateQuery s) := by
  unfold enterStateQuery
  split
  · exact complete_frame _ _
  · exact beginWait_frame _ _ _

theorem enterPhRequest_frame (r : Req) (s : State) : EngineFrame s (enterPhRequest r s) := by
  unfold enterPhRequest
  repeat' split
  all_goals first
    | exact complete_frame _ _ | exact enterPhReset_frame _ _ | exact enterStateQuery_frame _
    | exact beginWait_frame _ _ _

theorem requestEffect_frame (r : Req) (s : State) : EngineFrame s (requestEffect r s) := by
  cases r <;> constructor <;> rfl

theorem afterSend_frame (p : Pos) (ok : Bool) (s : State) : EngineFrame s (afterSend p ok s) := by
  unfold afterSend
  repeat' split
  all_goals first
    | exact .refl _ | exact complete_frame _ _ | exact beginWait_frame _ _ _ | exact returnPhReset_frame _ _ _
    | exact returnPhAck_frame _ _ _ | exact returnDataRequest_frame _ _
    | exact .trans (requestEffect_frame _ _) (complete_frame _ _)

theorem afterReceive_frame (p : Pos) (b : Byte) (s : State) : EngineFrame s (afterReceive p b s) := by
  unfold afterReceive
  repeat' split
  all_goals first
    | exact .refl _ | exact returnDataRequest_frame _ _
    | exact .trans (writeRx_frame _ _ _) (beginWait_frame _ _ _)
    | exact .trans (writeRx_frame _ _ _) (endDataReceive_frame _ _)
    | exact .trans (t := { s with phState := .normal }) (by constructor <;> rfl) (returnPhReset_frame _ _ _)
    | constructor <;> rfl

theorem afterDeadline_frame (p : Pos) (s : State) : EngineFrame s (afterDeadline p s) := by
  unfold afterDeadline
  repeat' split
  all_goals first
    | exact .refl _ | exact complete_frame _ _ | exact returnPhReset_frame _ _ _ | exact returnDataRequest_frame _ _
    | exact endDataReceive_frame _ _

/-- One iteration of `send_data`: the procedure's frame, and at most the one byte on `TXS`. -/
theorem sendStep_frame (a : SendAnswer) (s : State) :
    EngineFrame s (sendStep a s) ∨ ∃ b, s.pos.sendByte s.txBuf = some b ∧ EngineFrame (s.pushTx b) (sendStep a s) := by
  unfold sendStep
  split
  · exact .inl (.refl _)
  · split
    · exact .inr ⟨_, by assumption, afterSend_frame _ _ _⟩
    all_goals
      split
      · exact .inl (.trans (pollUpdate_frame s) (afterSend_frame _ _ _))
      · exact .inl (pollUpdate_frame s)

/-- One iteration of a receiving wait: the procedure's frame, and at most the one byte on `RXS`. -/
theorem receiveStep_frame (a : RecvAnswer) (s : State) :
    EngineFrame s (receiveStep a s) ∨ ∃ b, a = .ok b ∧ EngineFrame (s.pushRx b) (receiveStep a s) := by
  unfold receiveStep
  cases a with
  | ok b =>
    refine .inr ⟨b, rfl, ?_⟩
    dsimp only
    split
    · exact afterReceive_frame _ _ _
    · split
      · exact .trans (pollUpdate_frame _) (afterDeadline_frame _ _)
      · exact pollUpdate_frame _
  | busy | error =>
    refine .inl ?_
    dsimp only
    split
    · exact .trans (pollUpdate_frame _) (afterDeadline_frame _ _)
    · exact pollUpdate_frame _

theorem initStep_frame (a : InitAnswer) (s : State) : EngineFrame s (initStep a s) := by
  unfold initStep
  split
  · split
    · exact .trans (t := { s with phState := .reset }) (by constructor <;> rfl) (returnPhInit_frame _ _ _)
    · exact .trans (t := s) (.refl _) (returnPhInit_frame _ _ _)
  · exact .refl _

/-- Every engine step uses up exactly one input. -/
theorem engineMove_inputs {s t : State} (h : engineMove s = some t) : s.inputs.length = t.inputs.length + 1 := by
  obtain ⟨-, ⟨a, r, -, h1, rfl⟩ | ⟨a, r, -, h1, rfl⟩ | ⟨a, r, -, h1, rfl⟩⟩ := engineMove_cases h
  · rw [takeTx_length h1]
    rcases sendStep_frame a (s.setInputs r) with h | ⟨b, -, h⟩ <;> rw [h.inputs] <;> rfl
  · rw [takeRx_length h1]
    rcases receiveStep_frame a (s.setInputs r) with h | ⟨b, -, h⟩ <;> rw [h.inputs] <;> rfl
  · rw [takeInit_length h1, (initStep_frame a _).inputs, State.setInputs_inputs]

/-- The registers no engine step writes. -/
theorem engineMove_registers {s t : State} (h : engineMove s = some t) :
    t.localAddr = s.localAddr ∧ t.txBuf = s.txBuf ∧ t.txLen = s.txLen ∧ t.resTicks = s.resTicks ∧
    t.resTstate = s.resTstate ∧ t.resPhstate = s.resPhstate ∧ t.resFlag = s.resFlag ∧ t.resRef = s.resRef ∧
    t.resBudget = s.resBudget ∧ t.resAddr = s.resAddr := by
  obtain ⟨-, ⟨a, r, -, h1, rfl⟩ | ⟨a, r, -, h1, rfl⟩ | ⟨a, r, -, h1, rfl⟩⟩ := engineMove_cases h
  · rcases sendStep_frame a (s.setInputs r) with h | ⟨b, -, h⟩
    all_goals exact ⟨h.localAddr, h.txBuf, h.txLen, h.resTicks, h.resTstate, h.resPhstate, h.resFlag, h.resRef,
      h.resBudget, h.resAddr⟩
  · rcases receiveStep_frame a (s.setInputs r) with h | ⟨b, -, h⟩
    all_goals exact ⟨h.localAddr, h.txBuf, h.txLen, h.resTicks, h.resTstate, h.resPhstate, h.resFlag, h.resRef,
      h.resBudget, h.resAddr⟩
  · have h := initStep_frame a (s.setInputs r)
    exact ⟨h.localAddr, h.txBuf, h.txLen, h.resTicks, h.resTstate, h.resPhstate, h.resFlag, h.resRef,
      h.resBudget, h.resAddr⟩

/-- What an engine step adds to the streams: at most one byte to each. -/
theorem engineMove_streams {s t : State} (h : engineMove s = some t) :
    (t.txs = s.txs ∨ ∃ b, t.txs = s.txs ++ [b]) ∧ (t.rxs = s.rxs ∨ ∃ b, t.rxs = s.rxs ++ [b]) := by
  obtain ⟨-, ⟨a, r, -, h1, rfl⟩ | ⟨a, r, -, h1, rfl⟩ | ⟨a, r, -, h1, rfl⟩⟩ := engineMove_cases h
  · rcases sendStep_frame a (s.setInputs r) with h | ⟨b, -, h⟩
    · exact ⟨.inl h.txs, .inl h.rxs⟩
    · exact ⟨.inr ⟨b, h.txs⟩, .inl h.rxs⟩
  · rcases receiveStep_frame a (s.setInputs r) with h | ⟨b, -, h⟩
    · exact ⟨.inl h.txs, .inl h.rxs⟩
    · exact ⟨.inl h.txs, .inr ⟨b, h.rxs⟩⟩
  · have h := initStep_frame a (s.setInputs r)
    exact ⟨.inl h.txs, .inl h.rxs⟩

/-! ### Turns, one engine step at a time -/

/-- A turn that can make an engine step makes it and goes on from there. -/
theorem turn_of_some {s t : State} (h : engineMove s = some t) : turn s = turn t := by
  simp [turn, engineMove_inputs h, engineRun, h]

end Sys2Proof.Machine
end

