-- ==== Sys2Proof/Laws/Invariant.lean ====
section
/-! SUPPORT. The two ways a piece of a procedure ends, seen from the invariant: the command is complete, or the engine is
at a transport attempt of the latched command. Every procedure of the engine ends in one of them. -/

namespace Sys2Proof.Machine

/-- The part of the invariant that does not speak of the engine. -/
structure State.Base (s : State) : Prop where
  buffers : s.BufferInv
  code : s.CodeInv
  device : s.DeviceInv

theorem State.Inv.base {s : State} (h : s.Inv) : s.Base := ⟨h.buffers, h.code, h.device⟩

/-- Completion meets the invariant. -/
theorem complete_inv {s : State} (h : s.Base) (e : ErrCode) : (s.complete e).Inv := by
  obtain ⟨hb, -, hd⟩ := h
  refine ⟨?_, hb, ⟨e, rfl⟩, hd, ?_, ?_⟩
  · simp [State.EngineInv, State.complete]
  · intro h; simp [State.complete] at h
  · intro h; simp [State.complete] at h

/-- A wait begun at a position of the latched command's procedure meets the invariant, if the device state has been
checked or need not be. -/
theorem beginWait_inv {s : State} (h : s.Base) {i : Instr} {p : Pos} (t : Tick) (hb : s.engBusy = true)
    (hu : s.phState = .uninitialized →
      match p with
      | .sendOne _ | .recvOne | .waitByte _ | .waitMask _ | .transportInit _ => True
      | _ => False)
    (hl : s.latched = some i) (hp : posOf i p) : (s.beginWait t p).Inv := by
  obtain ⟨hbuf, hc, hd⟩ := h
  refine ⟨?_, hbuf, hc, hd, fun _ _ => rfl, fun _ h => hu h⟩
  unfold State.EngineInv
  rw [if_pos (show (s.beginWait t p).engBusy = true from hb)]
  exact ⟨i, hl, hp⟩

/-- `ph_init` up to `Transport.init()` meets the invariant. -/
theorem enterPhInit_inv {s : State} (h : s.Base) {i : Instr} {k : Nat} (hb : s.engBusy = true)
    (hl : s.latched = some i) (hp : posOf i (.transportInit k)) : (enterPhInit k s).Inv := by
  obtain ⟨hbuf, hc, -⟩ := h
  refine ⟨?_, hbuf, hc, by simp [State.DeviceInv, enterPhInit], ?_, fun _ _ => trivial⟩
  · unfold State.EngineInv
    rw [if_pos (show (enterPhInit k s).engBusy = true from hb)]
    exact ⟨i, hl, hp⟩
  · intro _ h
    exact absurd rfl h

/-- `OUT_PAYLOAD` keeps its fifteen bytes. -/
theorem length_payloadWithFree (y : List Byte) (c : Nat) : (payloadWithFree y c).length = 15 := by
  simp [payloadWithFree]
  omega

/-- The end of `DL_RECV` meets the invariant. -/
theorem finishDlRecv_inv {s : State} (h : s.Base) (e : ErrCode) : (finishDlRecv e s).Inv := by
  obtain ⟨⟨h1, h2, h3, h4, h5, h6, h7⟩, hc, hd⟩ := h
  unfold finishDlRecv
  split
  · exact complete_inv (s := { s.outFields s.received with resLen := s.rxLen })
      ⟨⟨h1, h2, h3, h4, h5, h6, length_payloadWithFree _ _⟩, hc, hd⟩ _
  · exact complete_inv (s := { s.outUnspecified with resLen := s.rxLen })
      ⟨⟨h1, h2, h3, h4, h5, h6, length_payloadWithFree _ _⟩, hc, hd⟩ _

end Sys2Proof.Machine
end

