-- ==== Sys2Proof/Laws/PerInstr.lean ====
section
/-! SUPPORT. Facts about every instruction as syntax, one lemma per constructor: the number of a well-formed
instruction's word fits in the 152 bits of a command word, so that `encode` loses none of it. -/

namespace Sys2Proof.Laws.EncodeFits

open Sys2Proof

/-- The word of `i` is not cut off. -/
def Statement (i : Instr) : Prop := i.wellFormed = true → encodeNat i < 2 ^ 152

/-- A byte fits. -/
theorem byte_fits (b : Byte) : b.toNat < 2 ^ 152 := lt_of_lt_of_le b.isLt (by norm_num)

theorem tInit : Statement .tInit := fun _ => by decide
theorem tStart (t : Tick) : Statement (.tStart t) := fun _ => by simp only [encodeNat]; omega
theorem tStop : Statement .tStop := fun _ => by decide
theorem tReset : Statement .tReset := fun _ => by decide
theorem tState : Statement .tState := fun _ => by decide
theorem tTicks : Statement .tTicks := fun _ => by decide
theorem tElapsed (r : Tick) (b : Tick) : Statement (.tElapsed r b) := fun _ => by simp only [encodeNat]; omega
theorem phSend (b : Byte) (t : Tick) : Statement (.phSend b t) := fun _ => by simp only [encodeNat]; omega
theorem phRecv (t : Tick) : Statement (.phRecv t) := fun _ => by simp only [encodeNat]; omega
theorem phWait (b : Byte) (t : Tick) : Statement (.phWait b t) := fun _ => by simp only [encodeNat]; omega
theorem phWaitm (b : Byte) (t : Tick) : Statement (.phWaitm b t) := fun _ => by simp only [encodeNat]; omega
theorem phInit : Statement .phInit := fun _ => by decide
theorem phReset : Statement .phReset := fun _ => by decide
theorem phStateq : Statement .phStateq := fun _ => by decide
theorem phReq (r : BitVec 4) : Statement (.phReq r) := fun _ => by simp only [encodeNat]; omega
theorem phAck (k : BitVec 2) : Statement (.phAck k) := fun _ => by simp only [encodeNat]; omega
theorem phDatareq (l : BitVec 6) (t : Tick) : Statement (.phDatareq l t) := fun _ => by simp only [encodeNat]; omega
theorem phDatarcv : Statement .phDatarcv := fun _ => by decide
theorem phGetstate : Statement .phGetstate := fun _ => by decide
theorem txbufWr (i : BitVec 6) (b : Byte) : Statement (.txbufWr i b) := fun _ => by simp only [encodeNat]; omega
theorem rxbufRd (i : BitVec 6) : Statement (.rxbufRd i) := fun _ => by simp only [encodeNat]; omega
theorem dlInit : Statement .dlInit := fun _ => by decide
theorem dlSend (f : BitVec 1) (a : BitVec 1) (p : BitVec 2) (d : Addr) (l : BitVec 4) (y : List Byte) : Statement (.dlSend f a p d l y) :=
  fun h => by
    have hy : y.length = 15 := by simpa [Instr.wellFormed, Config.maxPayload] using h
    have := natOfPayload_lt y
    rw [hy] at this
    simp only [encodeNat]
    omega
theorem dlRecv : Statement .dlRecv := fun _ => by decide
theorem dlSetaddr (a : Addr) : Statement (.dlSetaddr a) := fun _ => by simp only [encodeNat]; omega
theorem dlGetaddr : Statement .dlGetaddr := fun _ => by decide
theorem wResetReq : Statement .wResetReq := fun _ => by decide
theorem wStateQuery : Statement .wStateQuery := fun _ => by decide
theorem wActivateBusmonitor : Statement .wActivateBusmonitor := fun _ => by decide
theorem wAckinfoBase : Statement .wAckinfoBase := fun _ => by decide
theorem wAckAddressed : Statement .wAckAddressed := fun _ => by decide
theorem wAckBusy : Statement .wAckBusy := fun _ => by decide
theorem wAckNack : Statement .wAckNack := fun _ => by decide
theorem wProductIdQuery : Statement .wProductIdQuery := fun _ => by decide
theorem wActivateBusyMode : Statement .wActivateBusyMode := fun _ => by decide
theorem wDeactivateBusyMode : Statement .wDeactivateBusyMode := fun _ => by decide
theorem wSetMaxRetryCount : Statement .wSetMaxRetryCount := fun _ => by decide
theorem wActivateChecksum : Statement .wActivateChecksum := fun _ => by decide
theorem wSetAddress : Statement .wSetAddress := fun _ => by decide
theorem wDataStart : Statement .wDataStart := fun _ => by decide
theorem wDataContinue (i : BitVec 6) : Statement (.wDataContinue i) := fun _ => byte_fits _
theorem wDataEnd (n : BitVec 6) : Statement (.wDataEnd n) := fun _ => byte_fits _
theorem wResetIndication : Statement .wResetIndication := fun _ => by decide
theorem wStateIndication (s : Bool) (r : Bool) (e : Bool) (t : Bool) (w : Bool) : Statement (.wStateIndication s r e t w) := fun _ => byte_fits _
theorem wDataConfirmSuccess : Statement .wDataConfirmSuccess := fun _ => by decide
theorem wDataConfirmFailed : Statement .wDataConfirmFailed := fun _ => by decide
theorem wDataConfirmOther (high : BitVec 4) (bit2 : Bool) : Statement (.wDataConfirmOther high bit2) := fun _ => byte_fits _
theorem frControl (f : BitVec 1) (p : BitVec 2) : Statement (.frControl f p) := fun _ => byte_fits _
theorem frSrcHi (a : Byte) : Statement (.frSrcHi a) := fun _ => byte_fits _
theorem frSrcLo (a : Byte) : Statement (.frSrcLo a) := fun _ => byte_fits _
theorem frDstHi (d : Byte) : Statement (.frDstHi d) := fun _ => byte_fits _
theorem frDstLo (d : Byte) : Statement (.frDstLo d) := fun _ => byte_fits _
theorem frAddrlen (a : BitVec 1) (l : BitVec 4) : Statement (.frAddrlen a l) := fun _ => byte_fits _
theorem frPayload (j : BitVec 4) (b : Byte) : Statement (.frPayload j b) := fun _ => byte_fits _
theorem frChecksum (l : BitVec 4) (c : Byte) : Statement (.frChecksum l c) := fun _ => byte_fits _

end Sys2Proof.Laws.EncodeFits
end

