-- ==== Sys2Proof/Laws/Waits.lean ====
section
/-! SUPPORT. The deadline check of a wait, and one iteration of a wait by the transport's answer. -/

namespace Sys2Proof.Machine

/-! ### `poll_expired` (R117, R119) -/

/-- When the check answers 1. -/
theorem State.pollFlag_eq_true (s : State) :
    s.pollFlag = true ↔ s.pollBudget ≠ Config.tInfinite ∧ s.pollBudget ≤ s.ticks - s.pollRef := by
  unfold State.pollFlag hasElapsed
  split
  · simp_all
  · split <;> simp_all

/-- A check that answers 1 leaves the scratch registers alone. -/
theorem State.pollUpdate_of_expired {s : State} (h : s.pollFlag = true) : s.pollUpdate = s := by
  unfold State.pollFlag hasElapsed at h
  unfold State.pollUpdate hasElapsed
  split at h <;> [simp at h; split at h] <;> simp_all

/-- An infinite wait's check changes nothing. -/
theorem State.pollUpdate_of_infinite {s : State} (h : s.pollBudget = Config.tInfinite) : s.pollUpdate = s := by
  unfold State.pollUpdate hasElapsed
  rw [if_pos h]

/-- A check that answers 0 on a finite budget takes a new reference and the budget that is left. -/
theorem State.pollUpdate_of_waiting {s : State} (h : s.pollFlag = false) (hb : s.pollBudget ≠ Config.tInfinite) :
    s.pollUpdate = { s with pollRef := s.ticks, pollBudget := s.pollBudget - (s.ticks - s.pollRef) } := by
  unfold State.pollFlag hasElapsed at h
  unfold State.pollUpdate hasElapsed
  simp only [if_neg hb] at h ⊢
  split at h
  · simp at h
  · rename_i hlt
    simp only [if_neg hlt]

/-! ### One iteration (R130) -/

/-- A send position hands over a byte. -/
theorem Pos.sendByte_of_send {p : Pos} (h : p.attempt = some .send) (m : Memory) : ∃ b, p.sendByte m = some b := by
  revert h
  cases p <;> simp [Pos.attempt, Pos.sendByte]

/-- `Ok` ends a send. -/
theorem sendStep_ok {s : State} {b : Byte} (h : s.pos.sendByte s.txBuf = some b) :
    sendStep .ok s = afterSend s.pos true (s.pushTx b) := by
  simp [sendStep, h]

/-- Any other answer leads to the check, which ends the send or lets it go on. -/
theorem sendStep_missed {s : State} {a : SendAnswer} (h : s.pos.attempt = some .send) (ha : a ≠ .ok) :
    sendStep a s = if s.pollFlag then afterSend s.pos false s else s.pollUpdate := by
  obtain ⟨b, hb⟩ := Pos.sendByte_of_send h s.txBuf
  cases a <;> simp only [sendStep, hb] <;> first | exact absurd rfl ha | skip
  all_goals
    split
    · rw [State.pollUpdate_of_expired (by assumption)]
    · rfl

/-- An accepted byte ends a receiving wait. -/
theorem receiveStep_accepted {s : State} {b : Byte} (h : s.pos.accepts b = true) :
    receiveStep (.ok b) s = afterReceive s.pos b (s.pushRx b) := by
  simp [receiveStep, h]

/-- A byte that is not accepted is lost; then the check. -/
theorem receiveStep_lost {s : State} {b : Byte} (h : s.pos.accepts b = false) :
    receiveStep (.ok b) s =
      if s.pollFlag then afterDeadline s.pos (s.pushRx b) else (s.pushRx b).pollUpdate := by
  simp only [receiveStep, h]
  show (if s.pollFlag = true then afterDeadline s.pos (s.pushRx b).pollUpdate else (s.pushRx b).pollUpdate) = _
  split
  · rw [State.pollUpdate_of_expired (s := s.pushRx b) (by assumption)]
  · rfl

/-- With no byte, the check. -/
theorem receiveStep_silent {s : State} {a : RecvAnswer} (ha : ∀ b, a ≠ .ok b) :
    receiveStep a s = if s.pollFlag then afterDeadline s.pos s else s.pollUpdate := by
  cases a with
  | ok b => exact absurd rfl (ha b)
  | busy | error =>
    simp only [receiveStep]
    split
    · rw [State.pollUpdate_of_expired (by assumption)]
    · rfl

end Sys2Proof.Machine
end

