-- ==== Sys2Proof/Laws/Wire.lean ====
section
/-! SUPPORT. What the wire rows of the opcode table do, by the byte they stand for. -/

namespace Sys2Proof.Machine

/-- The row decoded from a byte in a slot of the part "block to transport" is an attempt to send that byte. -/
theorem exec_decoded_send {slot : Slot} {b : Byte} {i : Instr} (h : decodeByte slot b = .ok i)
    (hs : slot = .txService ∨ slot = .txStart ∨ slot = .txContinue ∨ slot = .txEnd) (s : State) :
    exec i s = .next (sendAttempt b s) := by
  rcases hs with rfl | rfl | rfl | rfl
  · have hb : b = BitVec.ofNat 8 b.toNat := by simp
    simp only [decodeByte, decodeService] at h
    split at h
    all_goals first
      | (rename_i hn; rw [hn] at hb; cases h; rw [hb]; rfl)
      | cases h
  · simp only [decodeByte] at h
    split at h <;> cases h
    subst b; rfl
  · simp only [decodeByte] at h
    split at h <;> cases h
    rename_i hb
    rw [exec, execWDataContinue, ← hb.1]
  · simp only [decodeByte] at h
    split at h <;> cases h
    rename_i hb
    rw [exec, execWDataEnd, ← hb.1]

theorem stateIndicationByte_of_mask : ∀ b : Byte, b &&& 0x07#8 = 0x07#8 →
    stateIndicationByte (b.getLsbD 7) (b.getLsbD 6) (b.getLsbD 5) (b.getLsbD 4) (b.getLsbD 3) = b := by decide

theorem dataConfirmOtherByte_of_mask : ∀ b : Byte, b &&& 0x0B#8 = 0x0B#8 →
    dataConfirmOtherByte (b.extractLsb' 4 4) (b.getLsbD 2) = b := by decide

/-- The row decoded from a byte in a slot of the part "transport to block" is that byte handed over. -/
theorem exec_decoded_receive {slot : Slot} {b : Byte} {i : Instr} (h : decodeByte slot b = .ok i)
    (hs : slot = .rxReset ∨ slot = .rxState ∨ slot = .rxConfirm) (s : State) :
    exec i s = .next (receiveByte b s) := by
  rcases hs with rfl | rfl | rfl
  · simp only [decodeByte] at h
    split at h <;> cases h
    subst b; rfl
  · simp only [decodeByte] at h
    split at h <;> cases h
    rename_i hb
    rw [exec, execWStateIndication, stateIndicationByte_of_mask b hb]
  · simp only [decodeByte] at h
    split at h
    · cases h; subst b; rfl
    · split at h
      · cases h; subst b; rfl
      · split at h <;> cases h
        rename_i hb
        rw [exec, execWDataConfirmOther, dataConfirmOtherByte_of_mask b hb]

/-- The slots a position's byte is decoded in. -/
theorem Pos.wireSlot_send {p : Pos} {slot : Slot} (h : p.wireSlot = some slot) (ha : p.attempt = some .send) :
    slot = .txService ∨ slot = .txStart ∨ slot = .txContinue ∨ slot = .txEnd := by
  revert ha h
  cases p <;> simp only [Pos.attempt, Pos.wireSlot, dataMarkerSlot, reduceCtorEq, Option.some.injEq,
    IsEmpty.forall_iff, implies_true] <;> rintro rfl <;>
    first | (simp; done) | (split <;> first | (simp; done) | (split <;> simp))

theorem Pos.wireSlot_receive {p : Pos} {slot : Slot} (h : p.wireSlot = some slot)
    (ha : p.attempt = some .receive) : slot = .rxReset ∨ slot = .rxState ∨ slot = .rxConfirm := by
  revert ha h
  cases p <;> simp [Pos.attempt, Pos.wireSlot] <;> rintro rfl <;> simp

end Sys2Proof.Machine
end

