-- ==== Sys2Proof/Tests/Slice0.lean ====
section
/-! SUPPORT. The model's own tests: ill-formed terms refused, words written out from spec/ decoded, one step per vector of
spec/95_test_vectors.md, and a witness for the hypotheses of every statement. Expected values stand in spec/. -/

namespace Sys2Proof.Tests

open Sys2Proof Sys2Proof.Machine Sys2Proof.Claims

/-! ### Helpers -/

/-- What the next state of an outcome satisfies; false of a fault or a refusal. -/
def after (o : Host.Outcome State Fault Refusal) (p : State → Bool) : Bool :=
  match o with
  | .next t => p t
  | .fault _ | .refused _ => false

/-- The engine idle in device state `d`, with `is` to come. -/
def idle (d : PhState) (is : List Input) : State := { State.reset with phState := d, inputs := is }

/-- The engine inside command `i` at position `p`, in `Normal`, with `b` ticks of its wait left and `is` to come. -/
def inside (i : Instr) (p : Pos) (b : Tick) (is : List Input) : State :=
  { State.reset with
    phState := .normal, timerState := .running, engBusy := true, latched := some i, pos := p, pollBudget := b,
    inputs := is }

/-- `n` send attempts taken. -/
def taken (n : Nat) : List Input := List.replicate n (.tx .ok)

/-- Bytes handed over one after the other. -/
def given (bytes : List Byte) : List Input := bytes.map fun b => .rx (.ok b)

/-- A payload filled up to fifteen bytes. -/
def payload (bytes : List Byte) : List Byte := bytes ++ List.replicate (15 - bytes.length) 0#8

/-- The frame `F` of 95_test_vectors.md. -/
def frameF : List Byte := [0x94#8, 0x00#8, 0x00#8, 0x11#8, 0x01#8, 0x02#8, 0x01#8, 0x02#8, 0x85#8]

/-- The greatest frame, V48. -/
def frameV48 : List Byte :=
  [0x90#8, 0x12#8, 0xAB#8, 0xFF#8, 0xFF#8, 0x8F#8, 0xA0#8, 0xA1#8, 0xA2#8, 0xA3#8, 0xA4#8] ++
  [0xA5#8, 0xA6#8, 0xA7#8, 0xA8#8, 0xA9#8, 0xAA#8, 0xAB#8, 0xAC#8, 0xAD#8, 0xAE#8, 0x09#8]

/-- The fields of V20. -/
def v20 : Instr := .dlSend 1#1 0#1 1#2 0x1101#16 2#4 (payload [0x01#8, 0x02#8])

/-! ### Ill-formed terms (R71, R81, R85, R86) -/

theorem test_illformed_dlSend : (Instr.dlSend 1#1 0#1 1#2 0x1101#16 2#4 [0x01#8, 0x02#8]).wellFormed = false := by decide
theorem test_illformed_wDataContinue_low : (Instr.wDataContinue 0#6).wellFormed = false := by decide
theorem test_illformed_wDataContinue_high : (Instr.wDataContinue 21#6).wellFormed = false := by decide
theorem test_illformed_wDataEnd_low : (Instr.wDataEnd 1#6).wellFormed = false := by decide
theorem test_illformed_wDataEnd_high : (Instr.wDataEnd 23#6).wellFormed = false := by decide
theorem test_illformed_wDataConfirmOther_success : (Instr.wDataConfirmOther 0x8#4 false).wellFormed = false := by decide
theorem test_illformed_wDataConfirmOther_failed : (Instr.wDataConfirmOther 0x0#4 false).wellFormed = false := by decide
theorem test_illformed_frPayload : (Instr.frPayload 15#4 0x00#8).wellFormed = false := by decide

/-- The decoder gives no ill-formed term: 0x80 in the slot of a Continue marker, 0x97 in the slot of an End marker. -/
theorem test_decode_refuses_markers :
    decodeByte .txContinue 0x80#8 = .error (.notMarker 0x80#8) ∧
    decodeByte .txEnd 0x97#8 = .error (.notMarker 0x97#8) := by decide

/-! ### Words written out from R71, R72, R80 to R88 -/

-- format N, op 0x00
theorem test_word_tInit : decodeTableWord 8 0b00000000 = some .tInit := by decide
-- format T: timeout = 0x00000064 in bits 39..8, op 0x01
theorem test_word_tStart : decodeTableWord 40 0x00000064_01 = some (.tStart 100#32) := by decide
-- V23: ref = 0xFFFFFFF0 in bits 39..8, budget = 40 in bits 71..40, op 0x06
theorem test_word_tElapsed : decodeTableWord 72 0x00000028_FFFFFFF0_06 = some (.tElapsed 0xFFFFFFF0#32 40#32) := by
  decide
-- V10: byte = 0x01 in bits 15..8, timeout = 3 in bits 47..16, op 0x10
theorem test_word_phSend : decodeTableWord 48 0x00000003_01_10 = some (.phSend 0x01#8 3#32) := by decide
-- V16d: the mask 0x0B, timeout = 10, op 0x13
theorem test_word_phWaitm : decodeTableWord 48 0x0000000A_0B_13 = some (.phWaitm 0x0B#8 10#32) := by decide
-- V28c: kind = 2 in bits 9..8, op 0x24
theorem test_word_phAck : decodeTableWord 16 0b000000_10_00100100 = some (.phAck 2#2) := by decide
-- P3: length = 000010 in bits 13..8, timeout = 8 in bits 45..14, op 0x25
theorem test_word_phDatareq : decodeTableWord 48 0b1000_000010_00100101 = some (.phDatareq 2#6 8#32) := by decide
-- P3: idx = 000001 in bits 13..8, byte = 0x55 in bits 21..14, op 0x28
theorem test_word_txbufWr : decodeTableWord 24 0b01010101_000001_00101000 = some (.txbufWr 1#6 0x55#8) := by decide
-- P2: idx = 001000, op 0x29
theorem test_word_rxbufRd : decodeTableWord 16 0b001000_00101001 = some (.rxbufRd 8#6) := by decide
-- V20, format F: payload[1] = 02, payload[0] = 01, payload_len = 0010, destination = 0x1101, priority = 01,
-- address_type = 0, frame_type = 1, op 0x31
theorem test_word_dlSend : decodeTableWord 152 0b00000010_00000001_0010_0001000100000001_01_0_1_00110001 = some v20 := by
  decide
-- P1: addr = 0x1102 in bits 23..8, op 0x33
theorem test_word_dlSetaddr : decodeTableWord 24 0x1102_33 = some (.dlSetaddr 0x1102#16) := by decide
-- R82: ACK_BASE | (1 << 2)
theorem test_word_wAckNack : decodeTableWord 8 0b00010100 = some .wAckNack := by decide
-- R81: 10 in bits 7..6, the index 7 below
theorem test_word_wDataContinue : decodeByte .txContinue 0b10_000111#8 = .ok (.wDataContinue 7#6) := by decide
-- V20: the End marker of nine bytes, 0x89
theorem test_word_wDataEnd : decodeByte .txEnd 0b10_001001#8 = .ok (.wDataEnd 9#6) := by decide
-- R84: bit 7 slave collision .. bit 3 temperature warning, bits 2..0 set
theorem test_word_wStateIndication :
    decodeByte .rxState 0b10001_111#8 = .ok (.wStateIndication true false false false true) := by decide
-- R85: xxxx1x11, neither 0x8B nor 0x0B
theorem test_word_wDataConfirmOther : decodeByte .rxConfirm 0b0001_1_1_11#8 = .ok (.wDataConfirmOther 1#4 true) := by
  decide
-- V20: the control byte 0x94 is standard, priority 01
theorem test_word_frControl : decodeByte .frameControl 0b1_001_01_00#8 = .ok (.frControl 1#1 1#2) := by decide
-- V48: 0x8F is address type 1, length 15
theorem test_word_frAddrlen : decodeByte .frameAddrlen 0b1_000_1111#8 = .ok (.frAddrlen 1#1 15#4) := by decide
-- V60, V61: a control byte with bit 5 set, and one with the fixed bit clear
theorem test_word_badControl :
    (decodeByte .frameControl 0xB4#8).isOk = false ∧ (decodeByte .frameControl 0x84#8).isOk = false := by decide
-- V71
theorem test_word_illegalOp :
    [0x07, 0x0F, 0x14, 0x2A, 0x35, 0x80, 0xFF].all (fun n => !(decodeCommand (BitVec.ofNat 152 n)).isOk) = true := by
  decide

/-! ### The timer: V1 to V9 -/

theorem test_tInit_V1 : after (exec .tInit { idle .normal [] with timerState := .running, ticks := 57#32 })
    (fun t => t.timerState == .reset && t.ticks == 0#32 && t.resErr == 0#4) = true := by decide
theorem test_tStart_V2 : after (exec (.tStart 100#32) { idle .normal [] with timerState := .paused, ticks := 9#32 })
    (fun t => t.timerState == .running && t.ticks == 0#32) = true := by decide
theorem test_tick_V3a : after (step { idle .normal [.tick] with timerState := .running, ticks := 0xFFFFFFFF#32 })
    (fun t => t.timerState == .running && t.ticks == 0#32) = true := by decide
theorem test_tick_V3b : after (step { idle .normal [.tick] with timerState := .paused, ticks := 5#32 })
    (fun t => t.timerState == .paused && t.ticks == 5#32) = true := by decide
theorem test_tStop_V4a : after (exec .tStop { idle .normal [] with timerState := .running, ticks := 42#32 })
    (fun t => t.timerState == .paused && t.ticks == 42#32 && t.resTicks == 42#32) = true := by decide
theorem test_tReset_V5 : after (exec .tReset { idle .normal [] with timerState := .running, ticks := 42#32 })
    (fun t => t.timerState == .reset && t.ticks == 0#32 && t.resTicks == 42#32) = true := by decide
theorem test_tState_V6a : after (exec .tState { idle .normal [] with timerState := .paused, ticks := 42#32 })
    (fun t => t.resTstate == 2#2 && t.ticks == 42#32) = true := by decide
theorem test_tTicks_V6b : after (exec .tTicks { idle .normal [] with timerState := .running, ticks := 7#32 })
    (fun t => t.resTicks == 7#32) = true := by decide
theorem test_tElapsed_V7a : after (exec (.tElapsed 0xFFFFFFF0#32 40#32) { idle .normal [] with ticks := 0x10#32 })
    (fun t => t.resFlag == 0#1 && t.resRef == 0x10#32 && t.resBudget == 8#32) = true := by decide
theorem test_tElapsed_V7b : after (exec (.tElapsed 0xFFFFFFF0#32 32#32) { idle .normal [] with ticks := 0x10#32 })
    (fun t => t.resFlag == 1#1 && t.resRef == 0xFFFFFFF0#32 && t.resBudget == 32#32) = true := by decide

/-! ### Byte level: V10 to V16 -/

theorem test_phSend_V10a : after (exec (.phSend 0x01#8 3#32) (idle .uninitialized [.tx .ok]))
    (fun t => t.resErr == 0#4 && t.txs == [0x01#8] && t.ticks == 0#32 && t.timerState == .running) = true := by decide
theorem test_phSend_V12a : after (exec (.phSend 0x55#8 0#32) (idle .uninitialized [.tx .busy, .tx .ok]))
    (fun t => t.resErr == 2#4 && t.txs == [] && t.inputs == [.tx .ok]) = true := by decide
theorem test_phRecv_V13 : after (exec (.phRecv 5#32) (idle .uninitialized [.rx .busy, .rx (.ok 0x47#8)]))
    (fun t => t.resErr == 0#4 && t.resByte == 0x47#8) = true := by decide
theorem test_phRecv_V14 : after
    (step { inside (.phRecv 5#32) .recvOne 1#32 [.rx .busy] with ticks := 5#32, pollRef := 4#32 })
    (fun t => t.resErr == 2#4 && t.resByte == 0#8 && !t.engBusy) = true := by decide
theorem test_phWait_V15a : after
    (exec (.phWait 0x03#8 10#32) (idle .uninitialized [.rx (.ok 0x07#8), .rx .busy, .rx (.ok 0x03#8)]))
    (fun t => t.resErr == 0#4 && t.rxs == [0x07#8, 0x03#8]) = true := by decide
theorem test_phWait_V15b : after
    (step { inside (.phWait 0x03#8 10#32) (.waitByte 0x03#8) 5#32 [.rx (.ok 0x8B#8)] with
      ticks := 10#32, pollRef := 5#32 })
    (fun t => t.resErr == 4#4 && t.rxs == [0x8B#8]) = true := by decide
theorem test_phWaitm_V16a : after
    (exec (.phWaitm 0x07#8 10#32) (idle .uninitialized (given [0x03#8, 0x47#8])))
    (fun t => t.resErr == 0#4 && t.resByte == 0x47#8 && t.rxs == [0x03#8, 0x47#8]) = true := by decide
theorem test_phWaitm_V16d : after
    (exec (.phWaitm 0x0B#8 10#32) (idle .uninitialized (given [0x0A#8, 0x1F#8])))
    (fun t => t.resErr == 0#4 && t.resByte == 0x1F#8) = true := by decide

/-! ### Services: V24 to V44 -/

theorem test_phInit_V24a : after (exec .phInit (idle .uninitialized [.init .ok]))
    (fun t => t.resErr == 0#4 && t.phState == .reset && t.timerState == .reset) = true := by decide
theorem test_phInit_V24b : after (exec .phInit { idle .normal [.init .error] with busy := true })
    (fun t => t.resErr == 1#4 && t.phState == .uninitialized && !t.busy) = true := by decide
theorem test_phReset_V25d : after (exec .phReset (idle .uninitialized (.tx .ok :: given [0x03#8])))
    (fun t => t.resErr == 0#4 && t.phState == .normal && t.txs == [0x01#8]) = true := by decide
theorem test_phReset_V25c : after
    (step { inside .phReset (.resetWait 0) 10#32 [.rx .busy] with phState := .reset, ticks := 10#32 })
    (fun t => t.resErr == 2#4 && t.phState == .reset) = true := by decide
theorem test_phStateq_V26c : after (exec .phStateq (idle .normal (.tx .ok :: given [0xFF#8])))
    (fun t => t.resErr == 0#4 && t.resByte == 0xFF#8 && t.txs == [0x02#8]) = true := by decide
theorem test_phStateq_V26d : after (exec .phStateq (idle .uninitialized [.tx .ok]))
    (fun t => t.resErr == 6#4 && t.txs == [] && t.timerState == .reset && t.inputs == [.tx .ok]) = true := by decide
theorem test_phReq_V27c : after (exec (.phReq 2#4) (idle .normal [.tx .ok]))
    (fun t => t.resErr == 0#4 && t.txs == [0x05#8] && t.phState == .monitor) = true := by decide
theorem test_phReq_V27m : after (exec (.phReq 8#4) (idle .uninitialized [])) (fun t => t.resErr == 3#4) = true := by
  decide
theorem test_phAck_V28b : after (exec (.phAck 1#2) (idle .normal [.tx .ok]))
    (fun t => t.resErr == 0#4 && t.txs == [0x12#8]) = true := by decide
theorem test_phAck_V28f : after (exec (.phAck 3#2) (idle .uninitialized [])) (fun t => t.resErr == 3#4) = true := by
  decide
theorem test_phDatareq_V29 : after
    (exec (.phDatareq 2#6 5#32)
      { idle .normal (taken 4 ++ given [0x8B#8]) with txBuf := [(0, 0xAA#8), (1, 0x55#8)] })
    (fun t => t.resErr == 0#4 && t.txs == [0x80#8, 0xAA#8, 0x82#8, 0x55#8]) = true := by decide
theorem test_phDatareq_V32 : after (exec (.phDatareq 0#6 5#32) (idle .uninitialized [])) (fun t => t.resErr == 6#4) = true := by
  decide
theorem test_phDatarcv_V40 : after
    (exec .phDatarcv (idle .normal (given ((List.range 24).map fun k => BitVec.ofNat 8 (k + 1)))))
    (fun t => t.resErr == 0#4 && t.rxLen == 22#6 && t.rxBuf.read 21 == 0x16#8 &&
      t.inputs == given [0x17#8, 0x18#8]) = true := by decide
theorem test_phDatarcv_V41 : after
    (exec .phDatarcv { idle .uninitialized [] with rxLen := 9#6, resLen := 9#6 })
    (fun t => t.resErr == 6#4 && t.rxLen == 9#6 && t.resLen == 9#6) = true := by decide
theorem test_phGetstate_V42 : after (exec .phGetstate (idle .monitor [])) (fun t => t.resPhstate == 3#3) = true := by
  decide
theorem test_txbufWr_V43 : after (exec (.txbufWr 21#6 0x09#8) (idle .normal []))
    (fun t => t.resErr == 0#4 && t.txBuf.read 21 == 0x09#8 && t.txLen == 0#6) = true := by decide
theorem test_txbufWr_V43_high : after (exec (.txbufWr 22#6 0x01#8) (idle .normal []))
    (fun t => t.resErr == 3#4 && t.txBuf == []) = true := by decide
theorem test_rxbufRd_V44 : after (exec (.rxbufRd 1#6) { idle .normal [] with rxBuf := [(0, 0x94#8), (1, 0x11#8)] })
    (fun t => t.resErr == 0#4 && t.resByte == 0x11#8) = true := by decide

/-! ### Data link: V46 to V72 -/

theorem test_parity_V46 : parity [0x9C#8, 0x11#8, 0x01#8, 0x0A#8, 0x03#8, 0x80#8] = 0x05#8 ∧ parity frameF = 0x00#8 := by
  decide
theorem test_dlSend_V20a : after (exec v20 (idle .normal (taken 18 ++ given [0x8B#8])))
    (fun t => t.resErr == 0#4 && t.txLen == 9#6 && t.txBuf.first 9 == frameF &&
      t.txs == [0x80#8, 0x94#8, 0x81#8, 0x00#8, 0x82#8, 0x00#8, 0x83#8, 0x11#8, 0x84#8] ++
        [0x01#8, 0x85#8, 0x02#8, 0x86#8, 0x01#8, 0x87#8, 0x02#8, 0x89#8, 0x85#8]) = true := by decide
theorem test_dlSend_V52 : after (exec v20 (idle .uninitialized []))
    (fun t => t.resErr == 2#4 && t.txBuf.first 9 == frameF && t.txLen == 9#6 && t.txs == []) = true := by decide
theorem test_dlRecv_V68 : after
    (exec .dlRecv { idle .normal (given frameV48 ++ [.tx .ok]) with localAddr := 0xFFFF#16 })
    (fun t => t.resErr == 0#4 && t.txs == [0x11#8] && t.resLen == 22#6 && t.outSrc == 0x12AB#16 && t.outAt == 1#1 &&
      t.outLen == 15#4 && t.outPayload.getD 14 0#8 == 0xAE#8) = true := by decide
theorem test_dlRecv_V67 : after (exec .dlRecv { idle .uninitialized [] with rxLen := 4#6 })
    (fun t => t.resErr == 2#4 && t.rxLen == 4#6 && t.resLen == 4#6) = true := by decide
/-- V54 to V65: the step that decides, on the bytes received. -/
theorem test_verdicts :
    frameVerdict frameF 0x1101#16 false = .answer .ack ∧ frameVerdict frameF 0x1101#16 true = .answer .busy ∧
    frameVerdict (frameF.set 6 0x11#8) 0x1101#16 false = .answer .nack ∧
    frameVerdict ((frameF.set 5 0x03#8).set 8 0x84#8) 0x1101#16 false = .answer .nack ∧
    frameVerdict (frameF ++ frameF) 0x1101#16 false = .answer .nack ∧
    frameVerdict (frameF.take 6) 0x1101#16 false = .silent .frameError ∧
    frameVerdict ((frameF.set 0 0xB4#8).set 8 0xA5#8) 0x1101#16 false = .silent .frameError ∧
    frameVerdict ((frameF.set 0 0x14#8).set 8 0x05#8) 0x1101#16 false = .silent .frameError ∧
    frameVerdict frameF 0x1102#16 false = .silent .addressError ∧
    frameVerdict ((frameF.set 5 0x72#8).set 8 0xF5#8) 0x1101#16 false = .answer .ack := by decide
theorem test_dlInit_V69a : after (exec .dlInit (idle .uninitialized (.init .ok :: .tx .ok :: given [0x03#8])))
    (fun t => t.resErr == 0#4 && t.txs == [0x01#8] && t.phState == .normal) = true := by decide
theorem test_dlSetaddr_V70 : after (exec (.dlSetaddr 0x1101#16) State.reset)
    (fun t => t.resErr == 0#4 && t.localAddr == 0x1101#16) = true := by decide
theorem test_dlGetaddr_V70 : after (exec .dlGetaddr { State.reset with localAddr := 0x1101#16 })
    (fun t => t.resErr == 0#4 && t.resAddr == 0x1101#16) = true := by decide
theorem test_illegal_V71 : after (step (idle .normal [.command 0x2A#152]))
    (fun t => t == { idle .normal [] with resErr := 3#4 }) = true := by decide
theorem test_refused_V72 :
    (match step (inside (.phRecv 0xFFFFFFFF#32) .recvOne 0xFFFFFFFF#32 [.command 0x02#152]) with
      | .refused r => r == .commandWhileBusy
      | .next _ | .fault _ => false) = true := by decide

/-! ### Wire and frame rows -/

theorem test_wResetReq : after (exec .wResetReq (idle .normal [.tx .ok])) (fun t => t.txs == [0x01#8]) = true := by decide
theorem test_wStateQuery : after (exec .wStateQuery (idle .normal [.tx .ok])) (fun t => t.txs == [0x02#8]) = true := by
  decide
theorem test_wSetMaxRetryCount_busy : after (exec .wSetMaxRetryCount (idle .normal [.tx .busy]))
    (fun t => t.txs == [] && t.inputs == []) = true := by decide
/-- The row is the engine's own attempt in `PH_ACK kind=2`. -/
theorem test_wAckNack : after (exec .wAckNack (inside (.phAck 2#2) (.ackSend .nack) 5#32 [.tx .ok]))
    (fun t => t.txs == [0x14#8] && t.resErr == 0#4 && !t.engBusy) = true := by decide
/-- V20: the End marker, then the last byte and the confirm. -/
theorem test_wDataEnd : after
    (exec (.wDataEnd 2#6) (inside (.phDatareq 2#6 5#32) (.dataMark 2 5#32 1) 5#32 (taken 2 ++ given [0x8B#8])))
    (fun t => t.txs == [0x82#8, 0x00#8] && t.resErr == 0#4 && !t.engBusy) = true := by decide
theorem test_wResetIndication : after (exec .wResetIndication (inside .phReset (.resetWait 0) 10#32 []))
    (fun t => t.phState == .normal && t.resErr == 0#4 && t.rxs == [0x03#8]) = true := by decide
theorem test_wStateIndication_V26a : after
    (exec (.wStateIndication false false false false true) (inside .phStateq .queryWait 10#32 []))
    (fun t => t.resByte == 0x0F#8 && t.resErr == 0#4) = true := by decide
theorem test_wDataConfirmSuccess : after (exec .wDataConfirmSuccess (inside (.phDatareq 9#6 5#32) .dataConfirm 5#32 []))
    (fun t => t.resErr == 0#4) = true := by decide
theorem test_wDataConfirmFailed : after (exec .wDataConfirmFailed (inside (.phDatareq 9#6 5#32) .dataConfirm 5#32 []))
    (fun t => t.resErr == 5#4) = true := by decide
theorem test_wDataConfirmOther_V34 : after
    (exec (.wDataConfirmOther 0x0#4 true) (inside (.phDatareq 9#6 5#32) .dataConfirm 5#32 []))
    (fun t => t.resErr == 4#4 && t.rxs == [0x0F#8]) = true := by decide
theorem test_frControl_V49 : after (exec (.frControl 0#1 2#2) (idle .normal [])) (fun t => t.txBuf == [(0, 0x18#8)]) = true := by
  decide
theorem test_frAddrlen_V48 : after (exec (.frAddrlen 1#1 15#4) (idle .normal [])) (fun t => t.txBuf == [(5, 0x8F#8)]) = true := by
  decide
theorem test_frPayload : after (exec (.frPayload 14#4 0xAE#8) (idle .normal [])) (fun t => t.txBuf == [(20, 0xAE#8)]) = true := by
  decide
theorem test_frChecksum : after (exec (.frChecksum 15#4 0x09#8) (idle .normal [])) (fun t => t.txBuf == [(21, 0x09#8)]) = true := by
  decide

/-! ### The placed word is the first instruction run -/

theorem test_placed_command : after (step (State.reset.withFetchWord 24 0x1102_33)) (fun t => t.localAddr == 0x1102#16) = true := by
  decide
theorem test_placed_wire : after (step (State.reset.withFetchWord 8 0x80))
    (fun t => t.txs == [0x80#8] && t.engBusy) = true := by decide

/-! ### Witnesses: concrete states and operands that meet the hypotheses of each statement -/

/-- A wait with no ticks left has reached its deadline. -/
theorem expired_inside (i : Instr) (p : Pos) (is : List Input) : expired (inside i p 0#32 is) :=
  ⟨show (0#32 : Tick) ≠ 0xFFFFFFFF#32 by decide, Nat.zero_le _⟩

/-- A wait with one tick left has not. -/
theorem not_expired_inside (i : Instr) (p : Pos) (is : List Input) : ¬ expired (inside i p 1#32 is) := by
  rintro ⟨-, h⟩
  have h' : (1#32 : Tick).toNat ≤ (0#32 - 0#32 : Tick).toNat := h
  exact absurd h' (by decide)

theorem witness_HardwareResetEvent : (idle .normal [.hwReset]).inputs = .hwReset :: [] := rfl
theorem witness_TimerInit : State.reset.engBusy = false := rfl
theorem witness_TimerStart : State.reset.engBusy = false := rfl
theorem witness_TimerStop : State.reset.engBusy = false := rfl
theorem witness_TimerReset : State.reset.engBusy = false := rfl
theorem witness_TickEvent :
    (idle .normal [.tick]).inputs = .tick :: [] ∧ (idle .normal [.tick]).timerState ≠ .running ∧
    (inside (.phRecv 5#32) .recvOne 5#32 [.tick]).inputs = .tick :: [] ∧
    (inside (.phRecv 5#32) .recvOne 5#32 [.tick]).timerState = .running := by decide
theorem witness_PureReaders :
    State.reset.engBusy = false ∧ State.reset.timerState = .reset ∧ State.reset.phState = .uninitialized ∧
    ({ State.reset with timerState := .running } : State).timerState = .running ∧
    ({ State.reset with timerState := .paused } : State).timerState = .paused ∧
    (idle .reset []).phState = .reset ∧ (idle .normal []).phState = .normal ∧ (idle .monitor []).phState = .monitor ∧
    (idle .stopped []).phState = .stopped := by decide
/-- The three clauses, where they meet: the infinite budget; the budget equal to the elapsed ticks; one more. -/
theorem witness_ElapsedPredicate :
    State.reset.engBusy = false ∧
    (32#32 : Tick) ≠ 0xFFFFFFFF#32 ∧ (32#32 : Tick).toNat ≤ (0x10#32 - 0xFFFFFFF0#32 : Tick).toNat ∧
    (33#32 : Tick) ≠ 0xFFFFFFFF#32 ∧ (0x10#32 - 0xFFFFFFF0#32 : Tick).toNat < (33#32 : Tick).toNat := by decide
theorem witness_RepeatedPollsConverge :
    (10#32 : Tick) ≠ 0xFFFFFFFF#32 ∧ 9 + 1 < 2 ^ 32 ∧ 9 < (10#32 : Tick).toNat := by decide
theorem witness_WaitsGoOnBeforeTheDeadline :
    ((inside (.phSend 1#8 1#32) (.sendOne 1#8) 1#32 [.tx .error]).pos.attempt = some .send ∧
      takeTx [.tx .error] = some (.error, []) ∧
      ¬ expired (inside (.phSend 1#8 1#32) (.sendOne 1#8) 1#32 [.tx .error])) ∧
    ((inside .phStateq .queryWait 1#32 (given [0x03#8])).pos.attempt = some .receive ∧
      takeRx (given [0x03#8]) = some (.ok 0x03#8, []) ∧ Pos.queryWait.accepts 0x03#8 = false ∧
      ¬ expired (inside .phStateq .queryWait 1#32 (given [0x03#8]))) :=
  ⟨⟨rfl, rfl, not_expired_inside _ _ _⟩, rfl, rfl, rfl, not_expired_inside _ _ _⟩
theorem witness_SendData :
    (idle .normal [.tx .ok]).engBusy = false ∧ takeTx [.tx .ok] = some (.ok, []) ∧
    (inside (.phSend 1#8 0#32) (.sendOne 1#8) 0#32 [.tx .busy]).engBusy = true ∧
    (inside (.phSend 1#8 0#32) (.sendOne 1#8) 0#32 [.tx .busy]).pos = .sendOne 1#8 ∧
    takeTx [.tx .busy] = some (.busy, []) ∧ expired (inside (.phSend 1#8 0#32) (.sendOne 1#8) 0#32 [.tx .busy]) ∧
    ¬ expired (inside (.phSend 1#8 1#32) (.sendOne 1#8) 1#32 [.tx .busy]) :=
  ⟨rfl, rfl, rfl, rfl, rfl, expired_inside _ _ _, not_expired_inside _ _ _⟩
theorem witness_RecvData :
    (idle .normal (given [0x47#8])).engBusy = false ∧ takeRx (given [0x47#8]) = some (.ok 0x47#8, []) ∧
    (inside (.phRecv 0#32) .recvOne 0#32 [.rx .error]).engBusy = true ∧
    (inside (.phRecv 0#32) .recvOne 0#32 [.rx .error]).pos = .recvOne ∧
    takeRx [.rx .error] = some (.error, []) ∧ expired (inside (.phRecv 0#32) .recvOne 0#32 [.rx .error]) ∧
    ¬ expired (inside (.phRecv 1#32) .recvOne 1#32 [.rx .error]) :=
  ⟨rfl, rfl, rfl, rfl, rfl, expired_inside _ _ _, not_expired_inside _ _ _⟩
theorem witness_WaitFor :
    (idle .normal (given [0x03#8])).engBusy = false ∧ takeRx (given [0x03#8]) = some (.ok 0x03#8, []) ∧
    (inside (.phWait 3#8 0#32) (.waitByte 3#8) 0#32 (given [0x13#8])).engBusy = true ∧
    (inside (.phWait 3#8 0#32) (.waitByte 3#8) 0#32 (given [0x13#8])).pos = .waitByte 3#8 ∧
    takeRx (given [0x13#8]) = some (.ok 0x13#8, []) ∧ RecvAnswer.ok 0x13#8 ≠ .ok 3#8 ∧
    expired (inside (.phWait 3#8 0#32) (.waitByte 3#8) 0#32 (given [0x13#8])) ∧
    ¬ expired (inside (.phWait 3#8 1#32) (.waitByte 3#8) 1#32 (given [0x13#8])) :=
  ⟨rfl, rfl, rfl, rfl, rfl, by decide, expired_inside _ _ _, not_expired_inside _ _ _⟩
theorem witness_WaitForMasked :
    (idle .normal (given [0x47#8])).engBusy = false ∧ takeRx (given [0x47#8]) = some (.ok 0x47#8, []) ∧
    0x47#8 &&& 0x07#8 = 0x07#8 ∧ (0x42#8 &&& 0x00#8 = 0x00#8) ∧
    (inside (.phWaitm 7#8 0#32) (.waitMask 7#8) 0#32 (given [0x03#8])).engBusy = true ∧
    (inside (.phWaitm 7#8 0#32) (.waitMask 7#8) 0#32 (given [0x03#8])).pos = .waitMask 7#8 ∧
    takeRx (given [0x03#8]) = some (.ok 0x03#8, []) ∧ 0x03#8 &&& 0x07#8 ≠ 0x07#8 ∧
    expired (inside (.phWaitm 7#8 0#32) (.waitMask 7#8) 0#32 (given [0x03#8])) ∧
    ¬ expired (inside (.phWaitm 7#8 1#32) (.waitMask 7#8) 1#32 (given [0x03#8])) :=
  ⟨rfl, rfl, by decide, by decide, rfl, rfl, rfl, by decide, expired_inside _ _ _, not_expired_inside _ _ _⟩
/-- One tick of timeout, checked after exactly one tick. -/
theorem witness_ReceiveTimesOutAfterItsTicks :
    (idle .normal [.command (encode (.phRecv 1#32)), .rx .busy, .tick, .rx .busy]).engBusy = false ∧
    (1#32 : Tick) ≠ 0xFFFFFFFF#32 ∧ 0 < (1#32 : Tick).toNat ∧ (1#32 : Tick).toNat ≤ 1 ∧ 1 < 2 ^ 32 ∧
    (idle .normal [.command (encode (.phRecv 1#32)), .rx .busy, .tick, .rx .busy]).inputs =
      .command (encode (.phRecv 1#32)) :: .rx .busy :: (List.replicate 1 .tick ++ .rx .busy :: []) :=
  ⟨rfl, by decide, by decide, by decide, by decide, rfl⟩
theorem witness_StateCheck :
    State.reset.engBusy = false ∧ State.reset.phState = .uninitialized ∧ 0 < (1#4).toNat ∧ (7#4).toNat < 8 ∧
    (0#2 : BitVec 2) ≠ 3#2 ∧ (2#2 : BitVec 2) ≠ 3#2 := by decide
theorem witness_PhysicalInit :
    (idle .normal [.init .ok]).engBusy = false ∧ takeInit [.init .ok] = some (.ok, []) ∧
    takeInit [.init .error] = some (.error, []) ∧
    (inside .phInit (.transportInit 0) 0#32 [.init .ok]).engBusy = true ∧
    (inside .phInit (.transportInit 0) 0#32 [.init .ok]).latched = some .phInit ∧
    (inside .phInit (.transportInit 0) 0#32 [.init .ok]).pos = .transportInit 0 := by decide
theorem witness_PhysicalReset :
    (idle .monitor [.tx .ok, .rx (.ok 0x03#8)]).engBusy = false ∧
    takeTx [.tx .ok, .rx (.ok 0x03#8)] = some (.ok, given [0x03#8]) ∧
    takeRx (given [0x03#8]) = some (.ok 0x03#8, []) ∧
    (inside .phReset (.resetSend 0) 0#32 [.tx .busy]).latched ≠ some .dlInit ∧
    (inside .phReset (.resetSend 0) 0#32 [.tx .busy]).pos = .resetSend 0 ∧
    expired (inside .phReset (.resetSend 0) 0#32 [.tx .busy]) ∧
    (inside .phReset (.resetWait 0) 0#32 (given [0x0B#8])).latched ≠ some .dlInit ∧
    (inside .phReset (.resetWait 0) 0#32 (given [0x0B#8])).pos = .resetWait 0 ∧
    takeRx (given [0x0B#8]) = some (.ok 0x0B#8, []) ∧ RecvAnswer.ok 0x0B#8 ≠ .ok 0x03#8 ∧
    expired (inside .phReset (.resetWait 0) 0#32 (given [0x0B#8])) :=
  ⟨rfl, rfl, rfl, by decide, rfl, expired_inside _ _ _, by decide, rfl, rfl, by decide, expired_inside _ _ _⟩
theorem witness_StateQuery :
    State.reset.phState = .uninitialized ∧ (idle .normal []).phState ≠ .uninitialized ∧
    takeTx [.tx .ok, .rx (.ok 0x07#8)] = some (.ok, given [0x07#8]) ∧
    takeRx (given [0x07#8]) = some (.ok 0x07#8, []) ∧ 0x07#8 &&& 0x07#8 = 0x07#8 ∧
    (inside .phStateq .querySend 0#32 [.tx .error]).pos = .querySend ∧
    expired (inside .phStateq .querySend 0#32 [.tx .error]) ∧
    (inside .phStateq .queryWait 0#32 (given [0x03#8])).pos = .queryWait ∧ 0x03#8 &&& 0x07#8 ≠ 0x07#8 ∧
    expired (inside .phStateq .queryWait 0#32 (given [0x03#8])) :=
  ⟨rfl, by decide, rfl, rfl, by decide, rfl, expired_inside _ _ _, rfl, by decide, expired_inside _ _ _⟩
/-- The ends of each range of request codes: 1, 2 and 7 valid, 8 invalid. -/
theorem witness_ServiceRequests :
    State.reset.engBusy = false ∧ 8 ≤ (8#4).toNat ∧ 0 < (1#4).toNat ∧ (7#4).toNat < 8 ∧ 2 ≤ (2#4).toNat ∧
    State.reset.phState = .uninitialized ∧ (idle .normal []).phState ≠ .uninitialized ∧
    takeTx [.tx .ok, .rx (.ok 0x03#8)] = some (.ok, given [0x03#8]) ∧
    takeRx (given [0x03#8]) = some (.ok 0x03#8, []) ∧
    takeTx [.tx .ok, .rx (.ok 0x07#8)] = some (.ok, given [0x07#8]) ∧
    takeRx (given [0x07#8]) = some (.ok 0x07#8, []) ∧ takeTx [.tx .ok] = some (.ok, []) ∧
    (inside (.phReq 4#4) (.reqSend .activateBusyMode 0x21#8) 0#32 [.tx .busy]).pos =
      .reqSend (Req.ofCode 4#4) 0x21#8 ∧
    takeTx [.tx .busy] = some (.busy, []) ∧
    expired (inside (.phReq 4#4) (.reqSend .activateBusyMode 0x21#8) 0#32 [.tx .busy]) :=
  ⟨rfl, by decide, by decide, by decide, by decide, rfl, by decide, rfl, rfl, rfl, rfl, rfl, rfl, rfl,
    expired_inside _ _ _⟩
theorem witness_Acknowledgements :
    State.reset.engBusy = false ∧ State.reset.phState = .uninitialized ∧ (2#2 : BitVec 2) ≠ 3#2 ∧
    (idle .normal [.tx .ok]).phState ≠ .uninitialized ∧ takeTx [.tx .ok] = some (.ok, []) ∧
    (inside (.phAck 2#2) (.ackSend .nack) 0#32 [.tx .busy]).latched = some (.phAck 2#2) ∧
    (inside (.phAck 2#2) (.ackSend .nack) 0#32 [.tx .busy]).pos = .ackSend .nack ∧
    expired (inside (.phAck 2#2) (.ackSend .nack) 0#32 [.tx .busy]) :=
  ⟨rfl, rfl, by decide, by decide, rfl, rfl, rfl, expired_inside _ _ _⟩
/-- The least length, and the greatest. -/
theorem witness_DataRequestSendsTheSegments :
    (idle .normal (taken 4 ++ .rx (.ok 0x8B#8) :: [])).phState ≠ .uninitialized ∧
    2 ≤ (2#6).toNat ∧ (22#6).toNat ≤ 22 ∧ 0x8B#8 &&& 0x0B#8 = 0x0B#8 ∧
    (idle .normal (taken 4 ++ .rx (.ok 0x8B#8) :: [])).inputs =
      List.replicate (2 * (2#6).toNat) (.tx .ok) ++ .rx (.ok 0x8B#8) :: [] ∧
    (idle .normal (taken 44 ++ .rx (.ok 0x0B#8) :: [])).inputs =
      List.replicate (2 * (22#6).toNat) (.tx .ok) ++ .rx (.ok 0x0B#8) :: [] := by decide
/-- The lengths 1, 2, 22 and 23; the first, the last and an interior byte. -/
theorem witness_DataRequest :
    State.reset.engBusy = false ∧ State.reset.phState = .uninitialized ∧ (idle .normal []).phState ≠ .uninitialized ∧
    (1#6).toNat < 2 ∧ 22 < (23#6).toNat ∧ 2 ≤ (2#6).toNat ∧ (22#6).toNat ≤ 22 ∧
    (∀ i, (inside (.phDatareq 22#6 5#32) (.dataMark 22 5#32 i) 5#32 [.tx .ok]).engBusy = true ∧
      (inside (.phDatareq 22#6 5#32) (.dataMark 22 5#32 i) 5#32 [.tx .ok]).pos = .dataMark 22 5#32 i ∧
      (inside (.phDatareq 22#6 5#32) (.dataByte 22 5#32 i) 5#32 [.tx .ok]).pos = .dataByte 22 5#32 i) ∧
    22 ≤ 22 ∧ 0 < 22 ∧ 21 < 22 ∧ takeTx [.tx .ok] = some (.ok, []) ∧
    (inside (.phDatareq 2#6 5#32) (.dataMark 2 5#32 1) 0#32 [.tx .busy]).latched = some (.phDatareq 2#6 5#32) ∧
    takeTx [.tx .busy] = some (.busy, []) ∧
    expired (inside (.phDatareq 2#6 5#32) (.dataMark 2 5#32 1) 0#32 [.tx .busy]) ∧
    (inside (.phDatareq 2#6 5#32) .dataConfirm 0#32 (given [0x0F#8])).latched = some (.phDatareq 2#6 5#32) ∧
    (inside (.phDatareq 2#6 5#32) .dataConfirm 0#32 (given [0x0F#8])).pos = .dataConfirm ∧
    takeRx (given [0x0F#8]) = some (.ok 0x0F#8, []) ∧ 0x0F#8 &&& 0x0B#8 = 0x0B#8 ∧
    takeRx (given [0x03#8]) = some (.ok 0x03#8, []) ∧ 0x03#8 &&& 0x0B#8 ≠ 0x0B#8 ∧
    expired (inside (.phDatareq 2#6 5#32) .dataConfirm 0#32 (given [0x03#8])) :=
  ⟨rfl, rfl, by decide, by decide, by decide, by decide, by decide, fun _ => ⟨rfl, rfl, rfl⟩, by decide, by decide,
    by decide, rfl, rfl, rfl, expired_inside _ _ _, rfl, rfl, rfl, by decide, rfl, by decide, expired_inside _ _ _⟩
theorem witness_SendResultsAreMapped :
    (inside v20 (.dataByte 9 0#32 8) 0#32 [.tx .busy]).engBusy = true ∧
    (inside v20 (.dataByte 9 0#32 8) 0#32 [.tx .busy]).latched =
      some (.dlSend 1#1 0#1 1#2 0x1101#16 2#4 (payload [0x01#8, 0x02#8])) ∧
    (inside v20 (.dataByte 9 0#32 8) 0#32 [.tx .busy]).pos = .dataByte 9 0#32 8 ∧
    takeTx [.tx .busy] = some (.busy, []) ∧ expired (inside v20 (.dataByte 9 0#32 8) 0#32 [.tx .busy]) ∧
    (inside v20 .dataConfirm 0#32 (given [0x03#8])).pos = .dataConfirm ∧
    takeRx (given [0x03#8]) = some (.ok 0x03#8, []) ∧ 0x03#8 &&& 0x0B#8 ≠ 0x0B#8 ∧
    expired (inside v20 .dataConfirm 0#32 (given [0x03#8])) ∧ takeRx (given [0x8B#8]) = some (.ok 0x8B#8, []) ∧
    takeRx (given [0x0B#8]) = some (.ok 0x0B#8, []) ∧ takeRx (given [0xFF#8]) = some (.ok 0xFF#8, []) ∧
    0xFF#8 &&& 0x0B#8 = 0x0B#8 ∧ 0xFF#8 ≠ 0x8B#8 ∧ 0xFF#8 ≠ 0x0B#8 :=
  ⟨rfl, rfl, rfl, rfl, expired_inside _ _ _, rfl, rfl, by decide, expired_inside _ _ _, rfl, rfl, rfl, by decide,
    by decide, by decide⟩
theorem witness_DataReceive :
    (idle .normal (given frameV48)).phState ≠ .uninitialized ∧ (idle .normal (given frameV48)).rxBuf.wf ∧
    frameV48.length = 22 ∧ (idle .normal (given frameV48)).inputs = frameV48.map (fun b => .rx (.ok b)) ++ [] ∧
    (inside .phDatarcv (.dataRecv 20) 0#32 (given [0x01#8])).pos = .dataRecv 20 ∧ 20 + 1 < 22 ∧
    takeRx (given [0x01#8]) = some (.ok 0x01#8, []) ∧
    (inside .phDatarcv (.dataRecv 21) 5#32 (given [0x01#8])).latched = some .phDatarcv ∧
    (inside .phDatarcv (.dataRecv 21) 5#32 (given [0x01#8])).rxBuf.wf ∧
    (inside .phDatarcv (.dataRecv 21) 0#32 [.rx .busy]).latched = some .phDatarcv ∧
    (inside .phDatarcv (.dataRecv 0) 0#32 [.rx .busy]).pos = .dataRecv 0 ∧
    (inside .phDatarcv (.dataRecv 21) 0#32 [.rx .busy]).pos = .dataRecv 21 ∧ takeRx [.rx .busy] = some (.busy, []) ∧
    expired (inside .phDatarcv (.dataRecv 21) 0#32 [.rx .busy]) ∧ State.reset.phState = .uninitialized :=
  ⟨by decide, by decide, rfl, rfl, rfl, by decide, rfl, rfl, by decide, rfl, rfl, rfl, rfl, expired_inside _ _ _, rfl⟩
theorem witness_TxbufWrite :
    State.reset.engBusy = false ∧ (21#6).toNat < 22 ∧ State.reset.txBuf.wf ∧ 22 ≤ (22#6).toNat := by decide
theorem witness_RxbufRead : State.reset.engBusy = false ∧ (21#6).toNat < 22 ∧ 22 ≤ (22#6).toNat := by decide
theorem witness_ParityVerifiesItself : frameF.take 8 ≠ [] ∧ (0x01#8 : Byte) ≠ 0x11#8 := by decide
theorem witness_FrameIsBuiltBeforeTheStateCheck :
    State.reset.engBusy = false ∧ State.reset.phState = .uninitialized ∧ State.reset.txBuf.wf ∧
    (payload [0x01#8, 0x02#8]).length = 15 := by decide
/-- The least frame and the greatest. -/
theorem witness_DlSendSendsTheFrame :
    (idle .normal (taken 14 ++ .rx (.ok 0x8B#8) :: [])).phState ≠ .uninitialized ∧
    (idle .normal []).txBuf.wf ∧ (payload []).length = 15 ∧ 0x8B#8 &&& 0x0B#8 = 0x0B#8 ∧
    (idle .normal (taken 14 ++ .rx (.ok 0x8B#8) :: [])).inputs =
      List.replicate (2 * (7 + (0#4).toNat)) (.tx .ok) ++ .rx (.ok 0x8B#8) :: [] ∧
    (idle .normal (taken 44 ++ .rx (.ok 0xFF#8) :: [])).inputs =
      List.replicate (2 * (7 + (15#4).toNat)) (.tx .ok) ++ .rx (.ok 0xFF#8) :: [] := by decide
/-- The end of a receive with the frame `F` in the buffer and `n` bytes counted. -/
def heardF (n : Nat) (a : Addr) : State :=
  { inside .dlRecv (.dataRecv n) 0#32 [.rx .busy] with
    localAddr := a
    rxBuf := [(0, 0x94#8), (3, 0x11#8), (4, 0x01#8), (5, 0x02#8), (6, 0x01#8), (7, 0x02#8), (8, 0x85#8)] }

/-- No byte; six bytes, refused in silence; the frame `F` for another node; the frame `F` for this node, acknowledged. -/
theorem witness_DlRecvChecksInOrder :
    (∀ n a, (heardF n a).engBusy = true ∧ (heardF n a).latched = some .dlRecv ∧
      (heardF n a).phState ≠ .uninitialized ∧ (heardF n a).pos = .dataRecv n ∧
      takeRx (heardF n a).inputs = some (.busy, []) ∧ expired (heardF n a)) ∧
    (parseResult ((List.range 6).map (Memory.read (heardF 6 0x1101#16).rxBuf)) 0x1101#16 false).2 = none ∧
    (parseResult ((List.range 9).map (Memory.read (heardF 9 0x1102#16).rxBuf)) 0x1102#16 false).2 = none ∧
    (parseResult ((List.range 9).map (Memory.read (heardF 9 0x1101#16).rxBuf)) 0x1101#16 false).2 = some .ack ∧
    State.reset.engBusy = false ∧ State.reset.phState = .uninitialized ∧
    (idle .normal []).engBusy = false ∧ (idle .normal []).phState ≠ .uninitialized :=
  ⟨fun _ _ => ⟨rfl, rfl, by simp [heardF, inside], rfl, rfl, expired_inside .dlRecv (.dataRecv 0) []⟩, by decide,
    by decide, by decide, rfl, rfl, rfl, by decide⟩
theorem witness_DlRecvAcknowledges :
    (inside .dlRecv (.ackSend .nack) 0#32 [.tx .busy]).latched = some .dlRecv ∧
    (inside .dlRecv (.ackSend .nack) 0#32 [.tx .busy]).pos = .ackSend .nack ∧
    takeTx [.tx .busy] = some (.busy, []) ∧ expired (inside .dlRecv (.ackSend .nack) 0#32 [.tx .busy]) ∧
    (let s := { inside .dlRecv (.ackSend .ack) 5#32 [.tx .ok] with
        rxLen := 9#6, rxBuf := Memory.write (Memory.write [] 0 0x94#8) 5 0x02#8 };
      s.pos = .ackSend .ack ∧ 7 ≤ s.rxLen.toNat ∧ s.rxLen.toNat ≤ 22 ∧
      (s.rxBuf.read 5).extractLsb' 0 4 = BitVec.ofNat 4 (s.rxLen.toNat - 7)) :=
  ⟨rfl, rfl, rfl, expired_inside _ _ _, by decide⟩
/-- The bytes of V48, for this node and for another. -/
theorem witness_DlRecvCompletes :
    (idle .normal (given frameV48 ++ [.tx .ok])).engBusy = false ∧
    (idle .normal (given frameV48 ++ [.tx .ok])).phState ≠ .uninitialized ∧
    (idle .normal (given frameV48 ++ [.tx .ok])).rxBuf.wf ∧ frameV48.length = 22 ∧
    (idle .normal (given frameV48 ++ [.tx .ok])).inputs = frameV48.map (fun b => .rx (.ok b)) ++ .tx .ok :: [] ∧
    parseResult frameV48 0xFFFF#16 false = (0#4, some .ack) ∧ (parseResult frameV48 0x1101#16 false).2 = none := by
  decide
theorem witness_AddressFilter :
    (let s := { inside .dlRecv (.dataRecv 7) 0#32 [.rx .busy] with
        rxBuf := Memory.write (Memory.write [] 0 0x94#8) 3 0x11#8 };
      s.latched = some .dlRecv ∧ s.pos = .dataRecv 7 ∧ s.rxBuf.read 0 ∈ [0x90#8, 0x94#8, 0x98#8, 0x9C#8] ∧
      s.rxBuf.read 3 ++ s.rxBuf.read 4 ≠ s.localAddr ∧ expired s) ∧
    (idle .normal (given frameV48)).phState ≠ .uninitialized ∧ frameV48.length = 22 ∧
    frameV48.getD 0 0#8 ∈ [0x90#8, 0x94#8, 0x98#8, 0x9C#8] ∧
    frameV48.getD 3 0#8 ++ frameV48.getD 4 0#8 ≠ (idle .normal (given frameV48)).localAddr :=
  ⟨⟨rfl, rfl, by decide, by decide, by decide, Nat.zero_le _⟩, by decide, rfl, by decide, by decide⟩
/-- `N_RETRY` is open (log 9), so no theorem can decide whether round 0 is followed by another: one of the two clauses on a
failed round is met there, and a round that is the last exists. -/
theorem witness_DataLinkInit :
    (idle .normal [.init .ok, .tx .ok, .rx (.ok 0x03#8)]).engBusy = false ∧
    takeInit [.init .ok, .tx .ok, .rx (.ok 0x03#8)] = some (.ok, [.tx .ok, .rx (.ok 0x03#8)]) ∧
    takeTx [.tx .ok, .rx (.ok 0x03#8)] = some (.ok, given [0x03#8]) ∧
    takeRx (given [0x03#8]) = some (.ok 0x03#8, []) ∧
    (inside .dlInit (.transportInit 0) 0#32 [.init .error]).latched = some .dlInit ∧
    (inside .dlInit (.transportInit 0) 0#32 [.init .error]).pos = .transportInit 0 ∧
    takeInit [.init .error] = some (.error, []) ∧
    Config.nRetry ≤ (Config.nRetry - 1) + 1 ∧ (0 + 1 < Config.nRetry ∨ Config.nRetry ≤ 0 + 1) ∧
    (inside .dlInit (.resetSend 0) 0#32 [.tx .busy]).pos = .resetSend 0 ∧
    expired (inside .dlInit (.resetSend 0) 0#32 [.tx .busy]) ∧
    (inside .dlInit (.resetWait 0) 0#32 [.rx .busy]).pos = .resetWait 0 ∧
    expired (inside .dlInit (.resetWait 0) 0#32 [.rx .busy]) :=
  ⟨rfl, rfl, rfl, rfl, rfl, rfl, rfl, by omega, by omega, rfl, expired_inside _ _ _, rfl, expired_inside _ _ _⟩
theorem witness_LocalAddress : State.reset.engBusy = false := rfl
theorem witness_FrameRoundTrip :
    (payload [0x01#8, 0x02#8]).length = 15 ∧ 1 < (2#4).toNat ∧
    (0x11#8 : Byte) ≠ (frameBytes 1#1 0#1 1#2 0x0000#16 0x1101#16 2#4 (payload [0x01#8, 0x02#8])).getD (6 + 1) 0#8 := by
  decide
theorem witness_WireBytesToTransport :
    toTransport .wResetReq ∧ Instr.wResetReq.wellFormed = true ∧ toTransport (.wDataEnd 22#6) ∧
    (Instr.wDataEnd 22#6).wellFormed = true ∧ takeTx (idle .normal [.tx .ok]).inputs = some (.ok, []) ∧
    (idle .normal [.tx .ok]).pendingSend ≠ some (encodeByte .wResetReq) ∧
    (inside .phReset (.resetSend 0) 0#32 [.tx .ok]).pendingSend = some (encodeByte .wResetReq) := by
  unfold toTransport
  decide
theorem witness_WireBytesFromTransport :
    fromTransport .wResetIndication ∧ Instr.wResetIndication.wellFormed = true ∧
    (inside .phReset (.resetWait 0) 0#32 []).receiving = true ∧ (idle .normal []).receiving = false := by
  unfold fromTransport
  decide
theorem witness_FrameBytesGoToTheirPlaces :
    framePlace (Instr.frPayload 14#4 0xAE#8).slot = some 20 ∧ (Instr.frPayload 14#4 0xAE#8).wellFormed = true ∧
    framePlace (Instr.frChecksum 15#4 0x09#8).slot = some 21 ∧ (Instr.frChecksum 15#4 0x09#8).wellFormed = true ∧
    State.reset.txBuf.wf := by decide
theorem witness_DecodeOfEncode : v20.wellFormed = true ∧ (Instr.wDataContinue 20#6).wellFormed = true := by decide
theorem witness_DecodedIsWellFormed : decode .txEnd 0x96#152 = .ok (.wDataEnd 22#6) := by decide
theorem witness_StepRunsTheDecodedCommand :
    (idle .normal [.rx (.ok 0x01#8), .command 0x05#152]).engBusy = false ∧
    takeEvent (idle .normal [.rx (.ok 0x01#8), .command 0x05#152]).inputs = some (.command 0x05#152, given [0x01#8]) ∧
    decode .command 0x05#152 = .ok .tTicks := by decide
theorem witness_StepIsTheEnginesTurn :
    (engineMove (inside .phReset (.resetSend 0) 5#32 [.tx .ok])).isSome = true ∧
    (engineMove (inside (.phRecv 5#32) .recvOne 5#32 [.rx .busy])).isSome = true := by decide
theorem witness_TurnRunsUntilNoAnswer :
    (engineMove (inside (.phRecv 5#32) .recvOne 5#32 [.rx .busy])).isSome = true ∧
    engineMove (inside (.phRecv 5#32) .recvOne 5#32 [.tick]) = none := by decide
theorem witness_IllegalOpCompletesWithRequest :
    (idle .normal [.command 0x07#152]).engBusy = false ∧
    takeEvent (idle .normal [.command 0x07#152]).inputs = some (.command 0x07#152, []) ∧
    (0x07#152 : CmdWord).extractLsb' 0 8 ∉ ([0x00#8, 0x01#8, 0x02#8, 0x03#8, 0x04#8, 0x05#8, 0x06#8, 0x10#8, 0x11#8, 0x12#8,
      0x13#8, 0x20#8, 0x21#8, 0x22#8, 0x23#8, 0x24#8, 0x25#8, 0x26#8, 0x27#8, 0x28#8, 0x29#8, 0x30#8, 0x31#8, 0x32#8,
      0x33#8, 0x34#8] : List Byte) := by decide
theorem witness_CommandWhileBusyIsRefused :
    (inside (.phRecv 5#32) .recvOne 5#32 [.command 0x02#152]).engBusy = true ∧
    engineMove (inside (.phRecv 5#32) .recvOne 5#32 [.command 0x02#152]) = none ∧
    takeEvent (inside (.phRecv 5#32) .recvOne 5#32 [.command 0x02#152]).inputs = some (.command 0x02#152, []) ∧
    Instr.tStop.slot = .command := by decide
theorem witness_StreamsOnlyGrow : after (step (inside .phReset (.resetSend 0) 5#32 [.tx .ok])) (fun t => t.txs == [1#8]) = true := by
  decide
theorem witness_OnlySetaddrWritesTheAddress :
    after (exec .dlGetaddr State.reset) (fun t => t.localAddr == State.reset.localAddr) = true ∧
    ∀ a, Instr.dlGetaddr ≠ .dlSetaddr a := ⟨by decide, by simp⟩
theorem witness_BufferWriters :
    after (exec (.txbufWr 0#6 0x94#8) State.reset) (fun t => t.txBuf != State.reset.txBuf) = true ∧
    after (exec .phDatarcv (idle .normal (given [0x94#8]))) (fun t => t.rxBuf != State.reset.rxBuf) = true := by decide
theorem witness_BusyWriters :
    (engineMove (inside (.phReq 4#4) (.reqSend .activateBusyMode 0x21#8) 5#32 [.tx .ok])).any (fun t => t.busy) = true ∧
    (inside (.phReq 4#4) (.reqSend .activateBusyMode 0x21#8) 5#32 [.tx .ok]).busy = false := by decide
theorem witness_DeviceStateMachine :
    (engineMove { inside .phReset (.resetWait 0) 5#32 (given [0x03#8]) with phState := .reset }).any
      (fun t => t.phState != .reset) = true := by decide
theorem witness_StoppedIsNeverEntered :
    after (step (idle .normal [.tick])) (fun t => t.phState == .normal) = true ∧
    (idle .normal [.tick]).phState ≠ .stopped := by decide
theorem witness_CompletionCodes :
    (inside .phReset (.resetSend 0) 5#32 [.tx .ok]).EngineInv ∧
    (engineMove (inside .phReset (.resetSend 0) 5#32 [.tx .ok])).isSome = true ∧
    Instr.tTicks.slot = .command ∧ State.reset.engBusy = false ∧ after (exec .tTicks State.reset) (fun _ => true) = true := by
  refine ⟨?_, by decide, rfl, rfl, by decide⟩
  exact ⟨.phReset, rfl, .inl ⟨.inl rfl, rfl⟩⟩
/-- A state inside `PH_RECV` that meets the whole invariant, and its next step. -/
theorem witness_EveryStepKeepsTheInvariant :
    (inside (.phRecv 5#32) .recvOne 5#32 [.rx (.ok 0x47#8)]).Inv ∧
    after (step (inside (.phRecv 5#32) .recvOne 5#32 [.rx (.ok 0x47#8)])) (fun t => t.resByte == 0x47#8) = true := by
  refine ⟨⟨⟨.phRecv 5#32, rfl, 5#32, rfl⟩, ?_, ⟨.none, rfl⟩, ?_, fun _ _ => rfl, ?_⟩, by decide⟩
  · unfold State.BufferInv
    decide
  · unfold State.DeviceInv
    decide
  · intro _ h
    exact absurd h (by decide)

end Sys2Proof.Tests
end

section
/-! SUPPORT. Engine turns (R7, R59): a machine step at an answered attempt is the engine's turn, and a turn is engine
steps until none can be made. -/

namespace Sys2Proof.Machine

/-! ### Which wire row a step fetches -/

/-- Everything a wire byte can be: the byte of an answered send attempt, or the byte a receive attempt is handed. -/
theorem wireByte_cases {s s' : State} {b : Byte} (h : wireByte s = some (b, s')) :
    s.engBusy = true ∧
    ((s.pos.attempt = some .send ∧ s.pos.sendByte s.txBuf = some b ∧ s' = s) ∨
     (s.pos.attempt = some .receive ∧ ∃ rest, takeRx s.inputs = some (.ok b, rest) ∧ s' = s.setInputs rest)) := by
  unfold wireByte at h
  split at h
  case isFalse => cases h
  case isTrue hb =>
    refine ⟨hb, ?_⟩
    split at h
    · split at h <;> cases h
      exact .inl ⟨‹_›, ‹_›, rfl⟩
    · split at h <;> cases h
      exact .inr ⟨‹_›, _, ‹_›, rfl⟩
    · cases h
    · cases h

/-- A fetched wire row is the wire byte decoded in the slot of the engine's position. -/
theorem wireInstr_cases {s s' : State} {i : Instr} (h : wireInstr s = some (i, s')) :
    ∃ slot b, s.pos.wireSlot = some slot ∧ wireByte s = some (b, s') ∧ decodeByte slot b = .ok i := by
  unfold wireInstr at h
  split at h
  case h_1 slot b u hslot hbyte =>
    split at h <;> cases h
    exact ⟨slot, b, hslot, hbyte, ‹_›⟩
  case h_2 => cases h

theorem step_wire {s s' : State} {i : Instr} (h : wireInstr s = some (i, s')) : step s = exec i s' := by
  simp [step, fetch, h]

theorem step_engine {s t : State} (hw : wireInstr s = none) (h : engineMove s = some t) : step s = .next (turn t) := by
  simp [step, fetch, hw, h]

/-! ### A wire row at the engine's own attempt -/

/-- The byte of the engine's send attempt, sent as a wire row, is the engine step and the turn after it. -/
theorem sendAttempt_eq_turn {s t : State} {b : Byte} (hp : s.pos.attempt = some .send)
    (hbyte : s.pos.sendByte s.txBuf = some b) (h : engineMove s = some t) : sendAttempt b s = turn t := by
  obtain ⟨hb, ⟨a, rest, -, htake, rfl⟩ | ⟨_, _, hp', -, -⟩ | ⟨_, _, hp', -, -⟩⟩ := engineMove_cases h
  · simp [sendAttempt, State.pendingSend, hb, hbyte, htake]
  all_goals simp [hp] at hp'

/-- A byte handed to the engine's receive attempt as a wire row is the engine step and the turn after it. -/
theorem receiveByte_eq_turn {s t : State} {b : Byte} {rest : List Input} (hb : s.engBusy = true)
    (hp : s.pos.attempt = some .receive) (htake : takeRx s.inputs = some (.ok b, rest)) (h : engineMove s = some t) :
    receiveByte b (s.setInputs rest) = turn t := by
  obtain rfl : receiveStep (.ok b) (s.setInputs rest) = t :=
    Option.some.inj ((engineMove_receive hb hp htake).symm.trans h)
  simp [receiveByte, State.receiving, hb, hp]

/-- Whichever wire row the engine's attempt is, running the row is the engine step and the turn after it. -/
theorem exec_wireInstr {s s' t : State} {i : Instr} (hw : wireInstr s = some (i, s')) (h : engineMove s = some t) :
    exec i s' = .next (turn t) := by
  obtain ⟨slot, b, hslot, hbyte, hdec⟩ := wireInstr_cases hw
  obtain ⟨hb, ⟨hp, hsend, rfl⟩ | ⟨hp, rest, htake, rfl⟩⟩ := wireByte_cases hbyte
  · rw [exec_decoded_send hdec (Pos.wireSlot_send hslot hp), sendAttempt_eq_turn hp hsend h]
  · rw [exec_decoded_receive hdec (Pos.wireSlot_receive hslot hp), receiveByte_eq_turn hb hp htake h]

/-! ### Turns run to their end -/

/-- As many engine steps as there are inputs leave none to make: each uses up one input. -/
theorem engineMove_engineRun {n : Nat} {s : State} (hn : s.inputs.length ≤ n) : engineMove (engineRun n s) = none := by
  induction n generalizing s with
  | zero =>
    cases h : engineMove s with
    | none => exact h
    | some t => have := engineMove_inputs h; omega
  | succ n ih =>
    cases h : engineMove s with
    | none => simp [engineRun, h]
    | some t =>
      have hlen := engineMove_inputs h
      simpa [engineRun, h] using ih (s := t) (by omega)

theorem engineMove_turn (s : State) : engineMove (turn s) = none := engineMove_engineRun le_rfl

/-- A turn that begins with an engine step goes on with the turn of the state after it. -/
theorem turn_of_engineMove {s t : State} (h : engineMove s = some t) : turn s = turn t := by
  simp [turn, engineMove_inputs h, engineRun, h]

end Sys2Proof.Machine

namespace Sys2Proof.Claims

open Sys2Proof.Machine

/-- Settles O46: the step runs a wire row, which is the engine's own attempt, or the engine itself. -/
theorem stepIsTheEnginesTurn : Obligations.StepIsTheEnginesTurn := by
  intro s t h
  cases hw : wireInstr s with
  | none => exact step_engine hw h
  | some r => exact (step_wire hw).trans (exec_wireInstr hw h)

/-- Settles O47: the number of inputs bounds the engine steps of a turn. -/
theorem turnRunsUntilNoAnswer : Obligations.TurnRunsUntilNoAnswer :=
  fun s => ⟨engineMove_turn s, fun _ => turn_of_engineMove, turn_of_none⟩

end Sys2Proof.Claims
end

section
/-! SUPPORT. The procedure a host command runs from its issue to its first attempt (R29), what the meaning of an
instruction is by the part of the opcode table it stands in, and what one step of the machine is (R7). -/

namespace Sys2Proof.Machine

/-! ### Host commands -/

/-- A command word decodes to a host command (R72). -/
theorem slot_of_decode_command {w : CmdWord} {i : Instr} (h : decode .command w = .ok i) : i.slot = .command := by
  simp only [decode, decodeCommand] at h
  split at h <;> cases h <;> rfl

/-- What a host command does from its issue to its first transport attempt or its completion (R29): the procedure its
meaning hands to `issue`. The other rows of the opcode table issue none. -/
def procedureOf (i : Instr) (s : State) : State :=
  match i with
  | .tInit => s.timerInit.complete .none
  | .tStart _ => s.timerStart.complete .none
  | .tStop => ({ s.timerStop with resTicks := s.ticks } : State).complete .none
  | .tReset => ({ s.timerInit with resTicks := s.ticks } : State).complete .none
  | .tState => ({ s with resTstate := s.timerState.code } : State).complete .none
  | .tTicks => ({ s with resTicks := s.ticks } : State).complete .none
  | .tElapsed ref budget =>
    ({ s with
        resFlag := BitVec.ofBool (hasElapsed s.ticks ref budget).1
        resRef := (hasElapsed s.ticks ref budget).2.1
        resBudget := (hasElapsed s.ticks ref budget).2.2 } : State).complete .none
  | .phSend b t => s.beginWait t (.sendOne b)
  | .phRecv t => s.beginWait t .recvOne
  | .phWait b t => s.beginWait t (.waitByte b)
  | .phWaitm b t => s.beginWait t (.waitMask b)
  | .phInit | .dlInit => enterPhInit 0 s
  | .phReset => enterPhReset 0 s
  | .phStateq => enterStateQuery s
  | .phReq req => enterPhRequest (Req.ofCode req) s
  | .phAck kind =>
    match AckKind.ofCode kind with
    | none => s.complete .request
    | some k => enterPhAck k s
  | .phDatareq n t => enterDataRequest n t s
  | .phDatarcv | .dlRecv => enterDataReceive s
  | .phGetstate => ({ s with resPhstate := s.phState.code } : State).complete .none
  | .txbufWr idx b => if indexInRange idx then (s.writeTx idx.toNat b).complete .none else s.complete .request
  | .rxbufRd idx =>
    if indexInRange idx then ({ s with resByte := s.rxBuf.read idx.toNat } : State).complete .none
    else s.complete .request
  | .dlSend f a p d l y => enterDataRequest (build f a p d l y s).txLen Config.tDl (build f a p d l y s)
  | .dlSetaddr addr => ({ s with localAddr := addr } : State).complete .none
  | .dlGetaddr => ({ s with resAddr := s.localAddr } : State).complete .none
  | _ => s

/-- The meaning of a host command is the issue of its procedure (R29, R61). -/
theorem exec_command {i : Instr} (hi : i.slot = .command) (s : State) : exec i s = issue i (procedureOf i) s := by
  cases i <;> cases hi <;> rfl

/-- A host command's meaning, where it gives a next state: an idle engine runs the procedure and has its turn. -/
theorem exec_command_next {i : Instr} {s t : State} (hi : i.slot = .command) (h : exec i s = .next t) :
    s.engBusy = false ∧ t = turn (procedureOf i (s.latch i)) := issue_next ((exec_command hi s).symm.trans h)

/-! ### The meaning of an instruction by its part of the opcode table -/

/-- Everything the meaning of an instruction can be: a host command's issue and turn, a send attempt, a byte handed
over, or one write into `TXBUF`. -/
theorem exec_cases {i : Instr} {s t : State} (h : exec i s = .next t) :
    (i.slot = .command ∧ s.engBusy = false ∧ t = turn (procedureOf i (s.latch i))) ∨
    (∃ b, t = sendAttempt b s) ∨ (∃ b, t = receiveByte b s) ∨
    (Claims.framePlace i.slot ≠ none ∧ ∃ k b, t = s.writeTx k b) := by
  by_cases hi : i.slot = .command
  · exact .inl ⟨hi, exec_command_next hi h⟩
  · refine .inr ?_
    cases i
    case wResetIndication | wStateIndication | wDataConfirmSuccess | wDataConfirmFailed | wDataConfirmOther =>
      cases h; exact .inr (.inl ⟨_, rfl⟩)
    case frControl | frSrcHi | frSrcLo | frDstHi | frDstLo | frAddrlen | frPayload | frChecksum =>
      cases h; exact .inr (.inr ⟨by simp [Claims.framePlace, Instr.slot], _, _, rfl⟩)
    case wResetReq | wStateQuery | wActivateBusmonitor | wAckinfoBase | wAckAddressed | wAckBusy | wAckNack
        | wProductIdQuery | wActivateBusyMode | wDeactivateBusyMode | wSetMaxRetryCount | wActivateChecksum
        | wSetAddress | wDataStart | wDataContinue | wDataEnd =>
      cases h; exact .inl ⟨_, rfl⟩
    all_goals exact absurd rfl hi

/-! ### A step by what it fetches -/

/-- An engine that makes no step is at no wire byte. -/
theorem wireByte_of_engineMove_none {s : State} (h : engineMove s = none) : wireByte s = none := by
  unfold engineMove at h
  unfold wireByte
  by_cases hb : s.engBusy = true
  · simp only [hb, if_true] at h ⊢
    cases hp : s.pos.attempt with
    | none => rfl
    | some a =>
      cases a with
      | init => rfl
      | send =>
        have ht : takeTx s.inputs = none := by simpa [hp] using h
        simp [ht]
      | receive =>
        have ht : takeRx s.inputs = none := by simpa [hp] using h
        simp [ht]
  · simp [hb]

theorem wireInstr_of_engineMove_none {s : State} (h : engineMove s = none) : wireInstr s = none := by
  cases hw : wireInstr s with
  | none => rfl
  | some r =>
    obtain ⟨-, b, -, hbyte, -⟩ := wireInstr_cases hw
    simp [wireByte_of_engineMove_none h] at hbyte

/-- A command whose turn has come gets no step while another is in progress (R29). -/
theorem step_command_busy {s : State} {w : CmdWord} {rest : List Input} (hm : engineMove s = none)
    (ht : takeEvent s.inputs = some (.command w, rest)) (hb : s.engBusy = true) :
    step s = .refused .commandWhileBusy := by
  simp [step, fetch, wireInstr_of_engineMove_none hm, hm, ht, hb]

/-- A command whose turn has come runs as it is decoded when the engine is idle (R29, R61). -/
theorem step_command_idle {s : State} {w : CmdWord} {rest : List Input} {i : Instr} (hb : s.engBusy = false)
    (ht : takeEvent s.inputs = some (.command w, rest)) (hd : decode .command w = .ok i) :
    step s = exec i (s.setInputs rest) := by
  have hm := engineMove_idle hb
  simp [step, fetch, wireInstr_of_engineMove_none hm, ht, hb, hd]

/-- Everything a step to a next state can be: the engine's turn, a command issued to an idle engine, a tick, the
hardware reset event, or nobody moves. -/
theorem step_cases {s t : State} (h : step s = .next t) :
    (∃ u, engineMove s = some u ∧ t = turn u) ∨
    (∃ rest i, i.slot = .command ∧ t = turn (procedureOf i ((s.setInputs rest).latch i))) ∨
    (∃ rest, t = (s.setInputs rest).illegalCommand) ∨
    (∃ rest, t = (s.setInputs rest).tickEvent) ∨
    (∃ rest, t = (s.setInputs rest).hardwareReset) ∨
    t = s := by
  cases hm : engineMove s with
  | some u =>
    have hstep := Claims.stepIsTheEnginesTurn s u hm
    exact .inl ⟨u, rfl, Host.Outcome.next.inj (h.symm.trans hstep)⟩
  | none =>
    refine .inr ?_
    simp only [step, fetch, wireInstr_of_engineMove_none hm, hm] at h
    rcases ht : takeEvent s.inputs with _ | ⟨e, rest⟩
    · rw [ht] at h
      cases h; simp
    · rw [ht] at h
      cases e with
      | command w =>
        by_cases hb : s.engBusy = true
        · simp [hb] at h
        · have hb : s.engBusy = false := by simpa using hb
          cases hd : decode .command w with
          | ok i =>
            have hi := slot_of_decode_command hd
            exact .inl ⟨rest, i, hi, (exec_command_next hi (by simpa [hb, hd] using h)).2⟩
          | error e => exact .inr (.inl ⟨rest, by simpa [hb, hd] using h.symm⟩)
      | tick => exact .inr (.inr (.inl ⟨rest, by simpa using h.symm⟩))
      | hwReset => exact .inr (.inr (.inr (.inl ⟨rest, by simpa using h.symm⟩)))
      | tx a | rx a | init a => cases h; simp

end Sys2Proof.Machine
end

section
/-! SUPPORT. Every procedure of the engine, every engine step and every step of the machine keeps the invariant. The
hypotheses of a procedure's lemma are what its caller knows: a command is latched, and the position the procedure enters
belongs to it. -/

namespace Sys2Proof.Machine

/-! ### The part of the invariant that does not speak of the engine -/

theorem State.Base.latch {s : State} (h : s.Base) (i : Instr) : (s.latch i).Base := ⟨h.buffers, h.code, h.device⟩

theorem State.Base.writeTx {s : State} (h : s.Base) {k : Nat} (hk : k < Config.maxFrame) (b : Byte) :
    (s.writeTx k b).Base := by
  obtain ⟨⟨hwf, hin, hrest⟩, hc, hd⟩ := h
  exact ⟨⟨Memory.write_wf hwf k b, Memory.write_within hin hk b, hrest⟩, hc, hd⟩

theorem State.Base.writeRx {s : State} (h : s.Base) {k : Nat} (hk : k < Config.maxFrame) (b : Byte) :
    (s.writeRx k b).Base := by
  obtain ⟨⟨htwf, htin, hwf, hin, hrest⟩, hc, hd⟩ := h
  exact ⟨⟨htwf, htin, Memory.write_wf hwf k b, Memory.write_within hin hk b, hrest⟩, hc, hd⟩

theorem State.Base.setRxLen {s : State} (h : s.Base) {n : Nat} (hn : n ≤ Config.maxFrame) :
    ({ s with rxLen := BitVec.ofNat 6 n } : State).Base := by
  obtain ⟨⟨htwf, htin, hwf, hin, htx, -, hout⟩, hc, hd⟩ := h
  refine ⟨⟨htwf, htin, hwf, hin, htx, ?_, hout⟩, hc, hd⟩
  rw [BitVec.toNat_ofNat]
  exact (Nat.mod_le _ _).trans hn

/-- A device state other than `Stopped` keeps the rest of the invariant as it was. -/
theorem State.Base.setPhState {s : State} (h : s.Base) {d : PhState} (hd : d ≠ .stopped) :
    ({ s with phState := d } : State).Base := ⟨h.buffers, h.code, hd⟩

theorem requestEffect_base {s : State} (h : s.Base) (r : Req) : (requestEffect r s).Base := by
  cases r
  case activateBusMonitor => exact h.setPhState (by decide)
  all_goals exact ⟨h.buffers, h.code, h.device⟩

/-- `tx_len` of a built frame (R182). -/
theorem toNat_txLen (l : BitVec 4) : (7#6 + l.setWidth 6).toNat = 7 + l.toNat := by
  have := l.isLt
  simp only [BitVec.toNat_add, BitVec.toNat_ofNat, BitVec.toNat_setWidth]
  omega

/-- The builder writes `TXBUF` and `tx_len` and nothing else (R182). -/
theorem build_frame (f a : BitVec 1) (p : BitVec 2) (d : Addr) (l : BitVec 4) (y : List Byte) (s : State) :
    ∃ m, build f a p d l y s = { s with txBuf := m, txLen := 7#6 + l.setWidth 6 } := by
  have hbytes (i : Nat) (bytes : List Byte) (u : State) : ∃ m, writeTxFrom i bytes u = { u with txBuf := m } := by
    induction bytes generalizing i u with
    | nil => exact ⟨u.txBuf, rfl⟩
    | cons b bytes ih => obtain ⟨m, hm⟩ := ih (i + 1) (u.writeTx i b); exact ⟨m, hm⟩
  obtain ⟨m, hm⟩ := hbytes 0 (bodyBytes f a p s.localAddr d l y) s
  rw [build, buildBody_eq, hm]
  exact ⟨_, rfl⟩

theorem putPayloadFrom_base {l : List Byte} {j : Nat} {s : State} (h : s.Base) (hl : j + l.length ≤ Config.maxPayload) :
    (putPayloadFrom j l s).Base := by
  induction l generalizing j s with
  | nil => exact h
  | cons b l ih =>
    simp only [List.length_cons, Config.maxPayload] at hl
    exact ih (h.writeTx (by simp only [Config.maxFrame]; omega) b) (by simp only [Config.maxPayload]; omega)

/-- The frame builder stays inside `TXBUF`: the checksum of the longest frame is its last byte (R90, R182). -/
theorem build_base {s : State} (h : s.Base) (f a : BitVec 1) (p : BitVec 2) (d : Addr) (l : BitVec 4) (y : List Byte) :
    (build f a p d l y s).Base := by
  have hl := l.isLt
  have hheader {s : State} (h : s.Base) {k : Nat} (hk : k < 6) (b : Byte) : (s.writeTx k b).Base :=
    h.writeTx (hk.trans (by decide)) b
  have hbody : (buildBody f a p d l y s).Base := by
    refine putPayloadFrom_base ?_ (by simp only [List.length_take, Config.maxPayload]; omega)
    iterate 6 refine hheader ?_ (by decide) _
    exact h
  obtain ⟨⟨hwf, hin, hrwf, hrin, -, hrx, hout⟩, hc, hd⟩ :=
    hbody.writeTx (k := 6 + l.toNat) (by simp only [Config.maxFrame]; omega)
      (parity ((buildBody f a p d l y s).txBuf.first (6 + l.toNat)))
  refine ⟨⟨hwf, hin, hrwf, hrin, ?_, hrx, hout⟩, hc, hd⟩
  show (7#6 + l.setWidth 6).toNat ≤ 22
  rw [toNat_txLen]; omega

theorem tickEvent_inv {s : State} (h : s.Inv) : s.tickEvent.Inv := by
  rw [State.tickEvent_eq]
  exact ⟨h.engine, h.buffers, h.code, h.device, h.timer, h.check⟩

theorem hardwareReset_buffers (s : State) : s.hardwareReset.BufferInv := by
  have htx : s.hardwareReset.txBuf = Memory.free (s.freeCtr + 32) Config.maxFrame := by
    simp only [State.hardwareReset]
  have hrx : s.hardwareReset.rxBuf = Memory.free (s.freeCtr + 64) Config.maxFrame := by
    simp only [State.hardwareReset]
  unfold State.BufferInv
  rw [htx, hrx]
  refine ⟨Memory.free_wf _ _, Memory.free_within _ _, Memory.free_wf _ _, Memory.free_within _ _, ?_, ?_, ?_⟩
  · exact Nat.zero_le _
  · exact Nat.zero_le _
  · exact length_payloadWithFree _ _

theorem hardwareReset_inv (s : State) : s.hardwareReset.Inv where
  engine := ⟨rfl, rfl⟩
  buffers := hardwareReset_buffers s
  code := ⟨.none, rfl⟩
  device := PhState.noConfusion
  timer hb := Bool.noConfusion hb
  check hb := Bool.noConfusion hb

/-! ### What a busy engine's state knows -/

theorem State.Inv.latched {s : State} (h : s.Inv) (hb : s.engBusy = true) :
    ∃ i, s.latched = some i ∧ posOf i s.pos := by
  have he := h.engine
  rwa [State.EngineInv, if_pos hb] at he

/-- The positions of procedures that make no state check, or are before it (R150, R151). -/
def Pos.unchecked : Pos → Bool
  | .sendOne _ | .recvOne | .waitByte _ | .waitMask _ | .transportInit _ => true
  | _ => false

/-- At a position of a checked procedure the device is initialized. -/
theorem State.Inv.initialized {s : State} (h : s.Inv) (hb : s.engBusy = true) (hp : s.pos.unchecked = false) :
    s.phState ≠ .uninitialized := by
  intro hu
  have hc := h.check hb hu
  cases hpos : s.pos <;> simp_all [Pos.unchecked]

/-- A wait begun by a procedure whose state check has passed. -/
theorem beginWait_inv_of_initialized {s : State} (h : s.Base) {i : Instr} {p : Pos} (t : Tick) (hb : s.engBusy = true)
    (hu : s.phState ≠ .uninitialized) (hl : s.latched = some i) (hp : posOf i p) : (s.beginWait t p).Inv :=
  beginWait_inv h t hb (fun h => absurd h hu) hl hp

theorem State.not_uninitialized_iff {s : State} : ¬ s.uninitialized = true ↔ s.phState ≠ .uninitialized := by
  simp [State.uninitialized]

/-- There is at least one round (R4). -/
theorem nRetry_pos : 0 < Config.nRetry := Nat.succ_pos _

theorem lengthInRange_iff {n : BitVec 6} : lengthInRange n = true ↔ 2 ≤ n.toNat ∧ n.toNat ≤ Config.maxFrame :=
  decide_eq_true_iff

/-! ### The procedures -/

section Procedures

variable {s : State} {i : Instr}

theorem enterPhReset_inv (h : s.Base) (hb : s.engBusy = true) (hl : s.latched = some i) {k : Nat}
    (hp : posOf i (.resetSend k)) : (enterPhReset k s).Inv :=
  beginWait_inv_of_initialized (h.setPhState (by decide)) _ hb PhState.noConfusion hl hp

theorem returnPhReset_inv (h : s.Base) (hb : s.engBusy = true) (k : Nat) (e : ErrCode) :
    (returnPhReset k e s).Inv := by
  unfold returnPhReset
  split
  next hl =>
    split
    · exact complete_inv h _
    · split
      · exact enterPhReset_inv h hb hl (.inr ⟨rfl, ‹_›⟩)
      · exact complete_inv h _
  next => exact complete_inv h _

theorem returnPhInit_inv (h : s.Base) (hb : s.engBusy = true) (k : Nat) (e : ErrCode) :
    (returnPhInit k e s).Inv := by
  unfold returnPhInit
  split
  next hl =>
    split
    · exact enterPhReset_inv h hb hl (.inr ⟨rfl, nRetry_pos⟩)
    · split
      · exact enterPhInit_inv h hb hl (.inr ⟨rfl, ‹_›⟩)
      · exact complete_inv h _
  next => exact complete_inv h _

theorem returnDataRequest_inv (h : s.Base) (e : ErrCode) : (returnDataRequest e s).Inv := by
  unfold returnDataRequest
  split <;> exact complete_inv h _

theorem returnPhAck_inv (h : s.Base) (kind : AckKind) (e : ErrCode) : (returnPhAck kind e s).Inv := by
  unfold returnPhAck
  split
  · exact finishDlRecv_inv h _
  · exact complete_inv h _

theorem enterPhAck_inv (h : s.Base) (hb : s.engBusy = true) (hl : s.latched = some i) {kind : AckKind}
    (hp : posOf i (.ackSend kind)) : (enterPhAck kind s).Inv := by
  unfold enterPhAck
  split
  · exact returnPhAck_inv h _ _
  next hu => exact beginWait_inv_of_initialized h _ hb (State.not_uninitialized_iff.mp hu) hl hp

theorem parseFrame_inv (h : s.Base) (hb : s.engBusy = true) (hl : s.latched = some .dlRecv) : (parseFrame s).Inv := by
  unfold parseFrame
  split
  · exact finishDlRecv_inv h _
  · exact enterPhAck_inv h hb hl (.inr rfl)

theorem returnDataReceive_inv (h : s.Base) (hb : s.engBusy = true) (e : ErrCode) : (returnDataReceive e s).Inv := by
  unfold returnDataReceive
  split
  next hl =>
    split
    · exact parseFrame_inv h hb hl
    · exact finishDlRecv_inv h _
  next =>
    split
    · exact complete_inv h _
    · exact complete_inv (s := { s with resLen := s.rxLen }) ⟨h.buffers, h.code, h.device⟩ _

theorem endDataReceive_inv (h : s.Base) (hb : s.engBusy = true) {n : Nat} (hn : n ≤ Config.maxFrame) :
    (endDataReceive n s).Inv :=
  returnDataReceive_inv (h.setRxLen hn) hb _

theorem enterDataReceive_inv (h : s.Base) (hb : s.engBusy = true) (hl : s.latched = some i)
    (hi : i = .phDatarcv ∨ i = .dlRecv) : (enterDataReceive s).Inv := by
  unfold enterDataReceive
  split
  · exact returnDataReceive_inv h hb _
  next hu => exact beginWait_inv_of_initialized h _ hb (State.not_uninitialized_iff.mp hu) hl ⟨by decide, hi⟩

theorem enterDataRequest_inv (h : s.Base) (hb : s.engBusy = true) (hl : s.latched = some i) {n : BitVec 6} {t : Tick}
    (hi : (∃ l, i = .phDatareq l t ∧ l.toNat = n.toNat) ∨
      (t = Config.tDl ∧ ∃ f a p d l y, i = .dlSend f a p d l y ∧ n.toNat = 7 + l.toNat)) :
    (enterDataRequest n t s).Inv := by
  unfold enterDataRequest
  split
  · exact returnDataRequest_inv h _
  next hu =>
    split
    · exact returnDataRequest_inv h _
    next hn =>
      obtain ⟨h2, h22⟩ : 2 ≤ n.toNat ∧ n.toNat ≤ Config.maxFrame := lengthInRange_iff.mp (by simpa using hn)
      exact beginWait_inv_of_initialized h _ hb (State.not_uninitialized_iff.mp hu) hl ⟨h2, h22, by omega, hi⟩

theorem enterStateQuery_inv (h : s.Base) (hb : s.engBusy = true) (hl : s.latched = some i)
    (hp : posOf i .querySend) : (enterStateQuery s).Inv := by
  unfold enterStateQuery
  split
  · exact complete_inv h _
  next hu => exact beginWait_inv_of_initialized h _ hb (State.not_uninitialized_iff.mp hu) hl hp

theorem enterPhRequest_inv (h : s.Base) (hb : s.engBusy = true) {c : BitVec 4} (hl : s.latched = some (.phReq c)) :
    (enterPhRequest (Req.ofCode c) s).Inv := by
  unfold enterPhRequest
  split
  · exact complete_inv h _
  next hr _ => exact enterPhReset_inv h hb hl (.inl ⟨.inr ⟨c, rfl, hr⟩, rfl⟩)
  next hr _ => exact enterStateQuery_inv h hb hl (.inr ⟨c, rfl, hr⟩)
  next w hw hreset hquery =>
    split
    · exact complete_inv h _
    next hu =>
      refine beginWait_inv_of_initialized h _ hb (State.not_uninitialized_iff.mp hu) hl
        ⟨c, rfl, rfl, hw, hreset, hquery⟩

/-! ### One engine step -/

theorem afterSend_inv (h : s.Inv) (hb : s.engBusy = true) (ok : Bool) : (afterSend s.pos ok s).Inv := by
  obtain ⟨i, hl, hp⟩ := h.latched hb
  have hinit := h.initialized hb
  cases hpos : s.pos
  all_goals
    rw [hpos] at hp hinit
    simp only [afterSend]
  case resetSend k =>
    split
    · exact beginWait_inv_of_initialized h.base _ hb (hinit rfl) hl hp
    · exact returnPhReset_inv h.base hb _ _
  case querySend =>
    split
    · exact beginWait_inv_of_initialized h.base _ hb (hinit rfl) hl hp
    · exact complete_inv h.base _
  case reqSend r w =>
    split
    · exact complete_inv (requestEffect_base h.base r) _
    · exact complete_inv h.base _
  case dataMark n t j =>
    split
    · exact beginWait_inv_of_initialized h.base _ hb (hinit rfl) hl hp
    · exact returnDataRequest_inv h.base _
  case dataByte n t j =>
    obtain ⟨h2, h22, -, hi⟩ := hp
    split
    · split
      next hj => exact beginWait_inv_of_initialized h.base _ hb (hinit rfl) hl ⟨h2, h22, hj, hi⟩
      next =>
        refine beginWait_inv_of_initialized h.base _ hb (hinit rfl) hl ?_
        rcases hi with ⟨l, hi, -⟩ | ⟨-, f, a, p, d, l, y, hi, -⟩
        · exact .inl ⟨l, t, hi⟩
        · exact .inr ⟨f, a, p, d, l, y, hi⟩
    · exact returnDataRequest_inv h.base _
  case sendOne => exact complete_inv h.base _
  case ackSend kind => exact returnPhAck_inv h.base _ _
  all_goals exact h

theorem afterReceive_inv (h : s.Inv) (hb : s.engBusy = true) (b : Byte) : (afterReceive s.pos b s).Inv := by
  obtain ⟨i, hl, hp⟩ := h.latched hb
  have hinit := h.initialized hb
  have hbyte : ({ s with resByte := b } : State).Base := ⟨h.buffers, h.code, h.device⟩
  cases hpos : s.pos
  all_goals
    rw [hpos] at hp hinit
    simp only [afterReceive]
  case recvOne | waitMask | queryWait => exact complete_inv hbyte _
  case waitByte => exact complete_inv h.base _
  case resetWait k => exact returnPhReset_inv (h.base.setPhState (d := .normal) PhState.noConfusion) hb _ _
  case dataConfirm => exact returnDataRequest_inv h.base _
  case dataRecv n =>
    obtain ⟨hn, hi⟩ := hp
    split
    next hn' => exact beginWait_inv_of_initialized (h.base.writeRx hn b) _ hb (hinit rfl) hl ⟨hn', hi⟩
    next => exact endDataReceive_inv (h.base.writeRx hn b) hb hn
  all_goals exact h

theorem afterDeadline_inv (h : s.Inv) (hb : s.engBusy = true) : (afterDeadline s.pos s).Inv := by
  obtain ⟨i, hl, hp⟩ := h.latched hb
  cases hpos : s.pos
  all_goals
    rw [hpos] at hp
    simp only [afterDeadline]
  case recvOne | waitByte | waitMask | queryWait => exact complete_inv h.base _
  case resetWait k => exact returnPhReset_inv h.base hb _ _
  case dataConfirm => exact returnDataRequest_inv h.base _
  case dataRecv n => exact endDataReceive_inv h.base hb hp.1.le
  all_goals exact h

end Procedures

/-- The invariant does not speak of the scratch registers of a wait, the streams or what is outside. -/
theorem State.Inv.setInputs {s : State} (h : s.Inv) (is : List Input) : (s.setInputs is).Inv :=
  ⟨h.engine, h.buffers, h.code, h.device, h.timer, h.check⟩

theorem State.Inv.pushTx {s : State} (h : s.Inv) (b : Byte) : (s.pushTx b).Inv :=
  ⟨h.engine, h.buffers, h.code, h.device, h.timer, h.check⟩

theorem State.Inv.pushRx {s : State} (h : s.Inv) (b : Byte) : (s.pushRx b).Inv :=
  ⟨h.engine, h.buffers, h.code, h.device, h.timer, h.check⟩

theorem State.Inv.pollUpdate {s : State} (h : s.Inv) : s.pollUpdate.Inv :=
  ⟨h.engine, h.buffers, h.code, h.device, h.timer, h.check⟩

theorem sendStep_inv {s : State} (h : s.Inv) (hb : s.engBusy = true) (a : SendAnswer) : (sendStep a s).Inv := by
  unfold sendStep
  split
  · exact h
  · cases a with
    | ok => exact afterSend_inv (h.pushTx _) hb true
    | busy | error =>
      dsimp only
      split
      · exact afterSend_inv h.pollUpdate hb false
      · exact h.pollUpdate

theorem receiveStep_inv {s : State} (h : s.Inv) (hb : s.engBusy = true) (a : RecvAnswer) : (receiveStep a s).Inv := by
  have hmissed {u : State} (hu : u.Inv) (hub : u.engBusy = true) :
      (if u.pollFlag then afterDeadline u.pos u.pollUpdate else u.pollUpdate).Inv := by
    split
    · exact afterDeadline_inv hu.pollUpdate hub
    · exact hu.pollUpdate
  cases a with
  | ok b =>
    cases hacc : s.pos.accepts b with
    | true =>
      rw [receiveStep_accepted hacc]
      exact afterReceive_inv (h.pushRx b) hb b
    | false =>
      simp only [receiveStep, hacc]
      exact hmissed (h.pushRx b) hb
  | busy | error => exact hmissed h hb

theorem initStep_inv {s : State} (h : s.Inv) (hb : s.engBusy = true) (a : InitAnswer) : (initStep a s).Inv := by
  unfold initStep
  split
  · cases a with
    | ok => exact returnPhInit_inv (h.base.setPhState (d := .reset) PhState.noConfusion) hb _ _
    | error => exact returnPhInit_inv h.base hb _ _
  · exact h

theorem engineMove_inv {s t : State} (h : s.Inv) (hm : engineMove s = some t) : t.Inv := by
  obtain ⟨hb, ⟨a, rest, -, -, rfl⟩ | ⟨a, rest, -, -, rfl⟩ | ⟨a, rest, -, -, rfl⟩⟩ := engineMove_cases hm
  · exact sendStep_inv (h.setInputs rest) hb a
  · exact receiveStep_inv (h.setInputs rest) hb a
  · exact initStep_inv (h.setInputs rest) hb a

theorem turn_inv {s : State} (h : s.Inv) : (turn s).Inv :=
  turn_induct (fun _ _ => engineMove_inv) s h

/-! ### The issue of a host command -/

/-- A host command's procedure, from an idle engine's state, ends in a state that meets the invariant. -/
theorem procedureOf_inv {s : State} (h : s.Base) {i : Instr} (hi : i.slot = .command) (hb : s.engBusy = true)
    (hl : s.latched = some i) : (procedureOf i s).Inv := by
  cases i
  all_goals dsimp only [procedureOf]
  case phSend b t => exact beginWait_inv h t hb (fun _ => trivial) hl ⟨t, rfl⟩
  case phRecv t => exact beginWait_inv h t hb (fun _ => trivial) hl ⟨t, rfl⟩
  case phWait b t => exact beginWait_inv h t hb (fun _ => trivial) hl ⟨t, rfl⟩
  case phWaitm b t => exact beginWait_inv h t hb (fun _ => trivial) hl ⟨t, rfl⟩
  case phInit => exact enterPhInit_inv h hb hl (.inl ⟨rfl, rfl⟩)
  case dlInit => exact enterPhInit_inv h hb hl (.inr ⟨rfl, nRetry_pos⟩)
  case phReset => exact enterPhReset_inv h hb hl (.inl ⟨.inl rfl, rfl⟩)
  case phStateq => exact enterStateQuery_inv h hb hl (.inl rfl)
  case phReq c => exact enterPhRequest_inv h hb hl
  case phAck c =>
    split
    · exact complete_inv h _
    next k hk => exact enterPhAck_inv h hb hl (.inl ⟨c, rfl, hk⟩)
  case phDatareq l t => exact enterDataRequest_inv h hb hl (.inl ⟨l, rfl, rfl⟩)
  case phDatarcv => exact enterDataReceive_inv h hb hl (.inl rfl)
  case dlRecv => exact enterDataReceive_inv h hb hl (.inr rfl)
  case txbufWr idx b =>
    split
    next hidx => exact complete_inv (h.writeTx (by simpa [indexInRange] using hidx) b) _
    · exact complete_inv h _
  case rxbufRd idx =>
    split
    · refine complete_inv ?_ _
      exact ⟨h.buffers, h.code, h.device⟩
    · exact complete_inv h _
  case dlSend f a p d l y =>
    obtain ⟨m, hm⟩ := build_frame f a p d l y s
    have hbase := build_base h f a p d l y
    rw [hm] at hbase ⊢
    exact enterDataRequest_inv hbase hb hl (.inr ⟨rfl, f, a, p, d, l, y, rfl, toNat_txLen l⟩)
  case tInit | tStart | tStop | tReset | tState | tTicks | tElapsed | phGetstate | dlSetaddr | dlGetaddr =>
    refine complete_inv ?_ _
    exact ⟨h.buffers, h.code, h.device⟩
  all_goals cases hi

end Sys2Proof.Machine

namespace Sys2Proof.Claims

open Sys2Proof.Machine

/-- Settles O57: each kind of step keeps the invariant. -/
theorem everyStepKeepsTheInvariant : Obligations.EveryStepKeepsTheInvariant := by
  intro s t h hstep
  rcases step_cases hstep with ⟨u, hm, rfl⟩ | ⟨rest, i, hi, rfl⟩ | ⟨rest, rfl⟩ | ⟨rest, rfl⟩ | ⟨rest, rfl⟩ | rfl
  · exact turn_inv (engineMove_inv h hm)
  · exact turn_inv (procedureOf_inv ((h.setInputs rest).base.latch i) hi rfl rfl)
  · exact complete_inv (h.setInputs rest).base .request
  · exact tickEvent_inv (h.setInputs rest)
  · exact hardwareReset_inv _
  · exact h

end Sys2Proof.Claims
end

section
/-! SUPPORT. Who writes the device registers `ph_state` and `busy` and the buffer `RXBUF` (R20, R21, R26), said once for
each procedure, for an engine step and for a turn. -/

namespace Sys2Proof.Machine

/-! ### Procedures that leave the device registers alone -/

/-- What every procedure but `ph_init`, `ph_reset` and the requests of R154 leaves alone; and where it does not end: at
the attempt of `data_receive`. -/
structure DeviceFrame (s t : State) : Prop where
  phState : t.phState = s.phState
  busy : t.busy = s.busy
  rxBuf : t.rxBuf = s.rxBuf
  pos : ∀ n, t.pos ≠ .dataRecv n

theorem complete_device (e : ErrCode) (s : State) : DeviceFrame s (s.complete e) :=
  ⟨rfl, rfl, rfl, fun _ => Pos.noConfusion⟩

theorem beginWait_device (t : Tick) {p : Pos} (hp : ∀ n, p ≠ .dataRecv n) (s : State) :
    DeviceFrame s (s.beginWait t p) := ⟨rfl, rfl, rfl, hp⟩

theorem returnDataRequest_device (e : ErrCode) (s : State) : DeviceFrame s (returnDataRequest e s) := by
  unfold returnDataRequest
  split <;> exact complete_device _ s

theorem finishDlRecv_device (e : ErrCode) (s : State) : DeviceFrame s (finishDlRecv e s) := by
  unfold finishDlRecv
  split <;> exact ⟨rfl, rfl, rfl, fun _ => Pos.noConfusion⟩

theorem returnPhAck_device (kind : AckKind) (e : ErrCode) (s : State) : DeviceFrame s (returnPhAck kind e s) := by
  unfold returnPhAck
  split
  · exact finishDlRecv_device _ s
  · exact complete_device _ s

theorem enterPhAck_device (kind : AckKind) (s : State) : DeviceFrame s (enterPhAck kind s) := by
  unfold enterPhAck
  split
  · exact returnPhAck_device kind _ s
  · exact beginWait_device _ (fun _ => Pos.noConfusion) s

theorem parseFrame_device (s : State) : DeviceFrame s (parseFrame s) := by
  unfold parseFrame
  split
  · exact finishDlRecv_device _ s
  · exact enterPhAck_device _ s

theorem returnDataReceive_device (e : ErrCode) (s : State) : DeviceFrame s (returnDataReceive e s) := by
  unfold returnDataReceive
  split
  · split
    · exact parseFrame_device s
    · exact finishDlRecv_device _ s
  · split <;> exact ⟨rfl, rfl, rfl, fun _ => Pos.noConfusion⟩

theorem endDataReceive_device (n : Nat) (s : State) : DeviceFrame s (endDataReceive n s) := by
  obtain ⟨hph, hbusy, hrx, hpos⟩ := returnDataReceive_device (if n = 0 then .timeout else .none)
    { s with rxLen := BitVec.ofNat 6 n }
  exact ⟨hph, hbusy, hrx, hpos⟩

theorem enterDataRequest_device (n : BitVec 6) (t : Tick) (s : State) : DeviceFrame s (enterDataRequest n t s) := by
  unfold enterDataRequest
  split
  · exact returnDataRequest_device _ s
  · split
    · exact returnDataRequest_device _ s
    · exact beginWait_device t (fun _ => Pos.noConfusion) s

theorem enterStateQuery_device (s : State) : DeviceFrame s (enterStateQuery s) := by
  unfold enterStateQuery
  split
  · exact complete_device _ s
  · exact beginWait_device _ (fun _ => Pos.noConfusion) s

/-! ### `ph_reset` and `ph_init` end or go round again (R187) -/

theorem returnPhReset_cases (k : Nat) (e : ErrCode) (s : State) :
    (∃ e', returnPhReset k e s = s.complete e') ∨ returnPhReset k e s = enterPhReset (k + 1) s := by
  unfold returnPhReset
  split
  · split
    · exact .inl ⟨_, rfl⟩
    · split
      · exact .inr rfl
      · exact .inl ⟨_, rfl⟩
  · exact .inl ⟨_, rfl⟩

theorem returnPhInit_cases (k : Nat) (e : ErrCode) (s : State) :
    (∃ e', returnPhInit k e s = s.complete e') ∨ returnPhInit k e s = enterPhReset 0 s ∨
      returnPhInit k e s = enterPhInit (k + 1) s := by
  unfold returnPhInit
  split
  · split
    · exact .inr (.inl rfl)
    · split
      · exact .inr (.inr rfl)
      · exact .inl ⟨_, rfl⟩
  · exact .inl ⟨_, rfl⟩

/-! ### One engine step -/

/-- What an engine step can do to the device registers, by its position (R21, R26, R159); and that only `data_receive`
goes on to an attempt of `data_receive`. -/
structure DeviceStep (s t : State) : Prop where
  phState : t.phState = s.phState ∨
    (∃ k, s.pos = .transportInit k ∧ (t.phState = .reset ∨ t.phState = .uninitialized)) ∨
    (∃ k, s.pos = .resetSend k ∧ t.phState = .reset) ∨
    (∃ k, s.pos = .resetWait k ∧ (t.phState = .normal ∨ t.phState = .reset)) ∨
    (∃ w, s.pos = .reqSend .activateBusMonitor w ∧ t.phState = .monitor)
  busy : t.busy = s.busy ∨
    (∃ w, s.pos = .reqSend .activateBusyMode w ∧ t.busy = true) ∨
    (∃ w, s.pos = .reqSend .deactivateBusyMode w ∧ t.busy = false) ∨
    (∃ k, s.pos = .transportInit k ∧ t.busy = false)
  rxBuf : t.rxBuf = s.rxBuf ∨ ∃ n, s.pos = .dataRecv n
  pos : ∀ n, t.pos = .dataRecv n → ∃ m, s.pos = .dataRecv m

theorem DeviceStep.refl (s : State) : DeviceStep s s := ⟨.inl rfl, .inl rfl, .inl rfl, fun n h => ⟨n, h⟩⟩

/-- An engine step's rule looks at the device registers and the position only. -/
theorem DeviceStep.of_same {s u t : State} (h : DeviceStep u t) (hph : u.phState = s.phState)
    (hbusy : u.busy = s.busy) (hrx : u.rxBuf = s.rxBuf) (hpos : u.pos = s.pos) : DeviceStep s t := by
  obtain ⟨h1, h2, h3, h4⟩ := h
  rw [hph, hpos] at h1
  rw [hbusy, hpos] at h2
  rw [hrx, hpos] at h3
  rw [hpos] at h4
  exact ⟨h1, h2, h3, h4⟩

theorem DeviceFrame.step {s t : State} (h : DeviceFrame s t) : DeviceStep s t :=
  ⟨.inl h.phState, .inl h.busy, .inl h.rxBuf, fun n hn => absurd hn (h.pos n)⟩

theorem returnPhReset_resetSend {s : State} {k : Nat} (hpos : s.pos = .resetSend k) (e : ErrCode) :
    DeviceStep s (returnPhReset k e s) := by
  rcases returnPhReset_cases k e s with ⟨e', h⟩ | h <;> rw [h]
  · exact (complete_device e' s).step
  · exact ⟨.inr (.inr (.inl ⟨k, hpos, rfl⟩)), .inl rfl, .inl rfl, fun _ => Pos.noConfusion⟩

theorem returnPhReset_resetWait {s : State} {k : Nat} (hpos : s.pos = .resetWait k) {d : PhState}
    (hd : d = s.phState ∨ d = .normal) (e : ErrCode) : DeviceStep s (returnPhReset k e { s with phState := d }) := by
  rcases returnPhReset_cases k e { s with phState := d } with ⟨e', h⟩ | h <;> rw [h]
  · exact ⟨hd.imp id fun hd => .inr (.inr (.inl ⟨k, hpos, .inl hd⟩)), .inl rfl, .inl rfl, fun _ => Pos.noConfusion⟩
  · exact ⟨.inr (.inr (.inr (.inl ⟨k, hpos, .inr rfl⟩))), .inl rfl, .inl rfl, fun _ => Pos.noConfusion⟩

theorem returnPhInit_transportInit {s : State} {k : Nat} (hpos : s.pos = .transportInit k) {d : PhState}
    (hd : d = s.phState ∨ d = .reset) (e : ErrCode) : DeviceStep s (returnPhInit k e { s with phState := d }) := by
  rcases returnPhInit_cases k e { s with phState := d } with ⟨e', h⟩ | h | h <;> rw [h]
  · exact ⟨hd.imp id fun hd => .inl ⟨k, hpos, .inl hd⟩, .inl rfl, .inl rfl, fun _ => Pos.noConfusion⟩
  · exact ⟨.inr (.inl ⟨k, hpos, .inl rfl⟩), .inl rfl, .inl rfl, fun _ => Pos.noConfusion⟩
  · exact ⟨.inr (.inl ⟨k, hpos, .inr rfl⟩), .inr (.inr (.inr ⟨k, hpos, rfl⟩)), .inl rfl, fun _ => Pos.noConfusion⟩

/-- A sent request writes the register its rule names (R154). -/
theorem requestEffect_reqSend {s : State} {r : Req} {w : Byte} (hpos : s.pos = .reqSend r w) (e : ErrCode) :
    DeviceStep s ((requestEffect r s).complete e) := by
  cases r
  case activateBusMonitor =>
    exact ⟨.inr (.inr (.inr (.inr ⟨w, hpos, rfl⟩))), .inl rfl, .inl rfl, fun _ => Pos.noConfusion⟩
  case activateBusyMode => exact ⟨.inl rfl, .inr (.inl ⟨w, hpos, rfl⟩), .inl rfl, fun _ => Pos.noConfusion⟩
  case deactivateBusyMode =>
    exact ⟨.inl rfl, .inr (.inr (.inl ⟨w, hpos, rfl⟩)), .inl rfl, fun _ => Pos.noConfusion⟩
  all_goals exact (complete_device e s).step

theorem afterSend_device (ok : Bool) (s : State) : DeviceStep s (afterSend s.pos ok s) := by
  cases hpos : s.pos
  all_goals simp only [afterSend]
  case sendOne => exact (complete_device _ s).step
  case resetSend k =>
    split
    · exact (beginWait_device _ (fun _ => Pos.noConfusion) s).step
    · exact returnPhReset_resetSend hpos _
  case querySend =>
    split
    · exact (beginWait_device _ (fun _ => Pos.noConfusion) s).step
    · exact (complete_device _ s).step
  case reqSend r w =>
    split
    · exact requestEffect_reqSend hpos _
    · exact (complete_device _ s).step
  case ackSend kind => exact (returnPhAck_device kind _ s).step
  case dataMark n t i =>
    split
    · exact (beginWait_device t (fun _ => Pos.noConfusion) s).step
    · exact (returnDataRequest_device _ s).step
  case dataByte n t i =>
    split
    · split <;> exact (beginWait_device t (fun _ => Pos.noConfusion) s).step
    · exact (returnDataRequest_device _ s).step
  all_goals exact .refl s

theorem afterReceive_device (b : Byte) (s : State) : DeviceStep s (afterReceive s.pos b s) := by
  cases hpos : s.pos
  all_goals simp only [afterReceive]
  case recvOne | waitMask | queryWait => exact DeviceFrame.step ⟨rfl, rfl, rfl, fun _ => Pos.noConfusion⟩
  case waitByte => exact (complete_device _ s).step
  case resetWait k => exact returnPhReset_resetWait hpos (.inr rfl) _
  case dataConfirm => exact (returnDataRequest_device _ s).step
  case dataRecv n =>
    split
    · exact ⟨.inl rfl, .inl rfl, .inr ⟨n, hpos⟩, fun _ _ => ⟨n, hpos⟩⟩
    · have hend := endDataReceive_device (n + 1) (s.writeRx n b)
      exact ⟨.inl hend.phState, .inl hend.busy, .inr ⟨n, hpos⟩, fun _ _ => ⟨n, hpos⟩⟩
  all_goals exact .refl s

theorem afterDeadline_device (s : State) : DeviceStep s (afterDeadline s.pos s) := by
  cases hpos : s.pos
  all_goals simp only [afterDeadline]
  case recvOne | waitByte | waitMask | queryWait => exact (complete_device _ s).step
  case resetWait k => exact returnPhReset_resetWait hpos (.inl rfl) _
  case dataConfirm => exact (returnDataRequest_device _ s).step
  case dataRecv n => exact (endDataReceive_device n s).step
  all_goals exact .refl s

theorem sendStep_device (a : SendAnswer) (s : State) : DeviceStep s (sendStep a s) := by
  unfold sendStep
  split
  · exact .refl s
  · next b _ =>
    cases a with
    | ok => exact (afterSend_device true (s.pushTx b)).of_same rfl rfl rfl rfl
    | busy | error =>
      dsimp only
      split
      · exact (afterSend_device false s.pollUpdate).of_same rfl rfl rfl rfl
      · exact (DeviceStep.refl s.pollUpdate).of_same rfl rfl rfl rfl

theorem receiveStep_device (a : RecvAnswer) (s : State) : DeviceStep s (receiveStep a s) := by
  have hmissed (u : State) :
      DeviceStep u (if u.pollFlag then afterDeadline u.pos u.pollUpdate else u.pollUpdate) := by
    split
    · exact (afterDeadline_device u.pollUpdate).of_same rfl rfl rfl rfl
    · exact (DeviceStep.refl u.pollUpdate).of_same rfl rfl rfl rfl
  cases a with
  | ok b =>
    cases hacc : s.pos.accepts b with
    | true =>
      rw [receiveStep_accepted hacc]
      exact (afterReceive_device b (s.pushRx b)).of_same rfl rfl rfl rfl
    | false =>
      simp only [receiveStep, hacc]
      exact (hmissed (s.pushRx b)).of_same rfl rfl rfl rfl
  | busy | error => exact hmissed s

theorem initStep_device (a : InitAnswer) (s : State) : DeviceStep s (initStep a s) := by
  unfold initStep
  split
  · next k hpos =>
    cases a with
    | ok => exact returnPhInit_transportInit hpos (.inr rfl) _
    | error => exact returnPhInit_transportInit hpos (.inl rfl) _
  · exact .refl s

/-- Every write of `ph_state`, `busy` and `RXBUF` by an engine step. -/
theorem engineMove_device {s t : State} (h : engineMove s = some t) : DeviceStep s t :=
  engineMove_induct DeviceStep h
    (fun a rest _ => (sendStep_device a (s.setInputs rest)).of_same rfl rfl rfl rfl)
    (fun a rest _ => (receiveStep_device a (s.setInputs rest)).of_same rfl rfl rfl rfl)
    (fun a rest _ => (initStep_device a (s.setInputs rest)).of_same rfl rfl rfl rfl)

theorem engineMove_not_stopped {s t : State} (hs : s.phState ≠ .stopped) (h : engineMove s = some t) :
    t.phState ≠ .stopped := by
  rcases (engineMove_device h).phState with ht | ⟨_, _, ht | ht⟩ | ⟨_, _, ht⟩ | ⟨_, _, ht | ht⟩ | ⟨_, _, ht⟩ <;> rw [ht]
  · exact hs
  all_goals exact PhState.noConfusion

/-! ### Turns -/

theorem turn_localAddr (s : State) : (turn s).localAddr = s.localAddr :=
  turn_induct (P := fun u => u.localAddr = s.localAddr) (fun _ _ hu hm => (engineMove_registers hm).1.trans hu) s rfl

theorem turn_txBuf (s : State) : (turn s).txBuf = s.txBuf :=
  turn_induct (P := fun u => u.txBuf = s.txBuf) (fun _ _ hu hm => (engineMove_registers hm).2.1.trans hu) s rfl

/-- Only a turn that begins inside `data_receive` writes `RXBUF` (R26). -/
theorem turn_rxBuf (s : State) : (turn s).rxBuf = s.rxBuf ∨ (s.engBusy = true ∧ ∃ n, s.pos = .dataRecv n) := by
  by_cases hb : s.engBusy = true
  · by_cases hpos : ∃ n, s.pos = .dataRecv n
    · exact .inr ⟨hb, hpos⟩
    · refine .inl (turn_induct (P := fun u => u.rxBuf = s.rxBuf ∧ ¬ ∃ n, u.pos = .dataRecv n) ?_ s ⟨rfl, hpos⟩).1
      intro u v ⟨hrx, hu⟩ hm
      have hd := engineMove_device hm
      exact ⟨(hd.rxBuf.resolve_right hu).trans hrx, fun ⟨n, hn⟩ => hu (hd.pos n hn)⟩
  · exact .inl (by rw [turn_idle (by simpa using hb)])

/-- A turn takes no byte back from either stream (R31, R54). -/
theorem turn_streams (s : State) : s.txs <+: (turn s).txs ∧ s.rxs <+: (turn s).rxs := by
  refine turn_induct (P := fun u => s.txs <+: u.txs ∧ s.rxs <+: u.rxs) ?_ s ⟨List.prefix_rfl, List.prefix_rfl⟩
  have hgrow {l m : List Byte} (h : m = l ∨ ∃ b, m = l ++ [b]) : l <+: m := by
    rcases h with rfl | ⟨b, rfl⟩
    · exact List.prefix_rfl
    · exact List.prefix_append l [b]
  intro u v ⟨htx, hrx⟩ hm
  obtain ⟨htx', hrx'⟩ := engineMove_streams hm
  exact ⟨htx.trans (hgrow htx'), hrx.trans (hgrow hrx')⟩

theorem turn_not_stopped {s : State} (hs : s.phState ≠ .stopped) : (turn s).phState ≠ .stopped :=
  turn_induct (P := fun u => u.phState ≠ .stopped) (fun _ _ => engineMove_not_stopped) s hs

/-! ### The issue of a host command -/

/-- What a host command's procedure leaves alone, and which command may write what, up to its first attempt. -/
structure IssueFrame (i : Instr) (s t : State) : Prop where
  txs : t.txs = s.txs
  rxs : t.rxs = s.rxs
  rxBuf : t.rxBuf = s.rxBuf
  localAddr : t.localAddr = s.localAddr ∨ ∃ a, i = .dlSetaddr a
  txBuf : t.txBuf = s.txBuf ∨ (∃ x b, i = .txbufWr x b) ∨ ∃ f a p d l y, i = .dlSend f a p d l y
  phState : s.phState ≠ .stopped → t.phState ≠ .stopped
  pos : ∀ n, t.pos = .dataRecv n → i = .phDatarcv ∨ i = .dlRecv

section Issue

variable {i : Instr} {s t : State}

theorem IssueFrame.of_frames (h : EngineFrame s t) (hd : DeviceFrame s t) : IssueFrame i s t :=
  ⟨h.txs, h.rxs, hd.rxBuf, .inl h.localAddr, .inl h.txBuf, fun hs => hd.phState ▸ hs, fun n hn => absurd hn (hd.pos n)⟩

/-- A command that completes at once, having written result registers or the timer only. -/
theorem IssueFrame.complete (htxs : t.txs = s.txs) (hrxs : t.rxs = s.rxs) (hrx : t.rxBuf = s.rxBuf)
    (ha : t.localAddr = s.localAddr) (htx : t.txBuf = s.txBuf) (hph : t.phState = s.phState) (e : ErrCode) :
    IssueFrame i s (t.complete e) :=
  ⟨htxs, hrxs, hrx, .inl ha, .inl htx, fun hs h => hs (hph ▸ h), fun _ => Pos.noConfusion⟩

theorem IssueFrame.beginWait (u : Tick) {p : Pos} (hp : ∀ n, p ≠ .dataRecv n) : IssueFrame i s (s.beginWait u p) :=
  .of_frames (beginWait_frame u p s) (beginWait_device u hp s)

theorem enterPhReset_issue (k : Nat) : IssueFrame i s (enterPhReset k s) :=
  ⟨rfl, rfl, rfl, .inl rfl, .inl rfl, fun _ => PhState.noConfusion, fun _ => Pos.noConfusion⟩

theorem enterPhInit_issue (k : Nat) : IssueFrame i s (enterPhInit k s) :=
  ⟨rfl, rfl, rfl, .inl rfl, .inl rfl, fun _ => PhState.noConfusion, fun _ => Pos.noConfusion⟩

theorem enterStateQuery_issue : IssueFrame i s (enterStateQuery s) :=
  .of_frames (enterStateQuery_frame s) (enterStateQuery_device s)

theorem enterDataRequest_issue (n : BitVec 6) (u : Tick) : IssueFrame i s (enterDataRequest n u s) :=
  .of_frames (enterDataRequest_frame n u s) (enterDataRequest_device n u s)

theorem enterPhRequest_issue (r : Req) : IssueFrame i s (enterPhRequest r s) := by
  unfold enterPhRequest
  split
  · exact .complete rfl rfl rfl rfl rfl rfl _
  · exact enterPhReset_issue 0
  · exact enterStateQuery_issue
  · split
    · exact .complete rfl rfl rfl rfl rfl rfl _
    · exact .beginWait _ fun _ => Pos.noConfusion

theorem enterDataReceive_issue (hi : i = .phDatarcv ∨ i = .dlRecv) : IssueFrame i s (enterDataReceive s) := by
  unfold enterDataReceive
  split
  · exact .of_frames (returnDataReceive_frame _ s) (returnDataReceive_device _ s)
  · exact ⟨rfl, rfl, rfl, .inl rfl, .inl rfl, id, fun _ _ => hi⟩

theorem procedureOf_issue (hi : i.slot = .command) (s : State) : IssueFrame i s (procedureOf i s) := by
  cases i
  all_goals dsimp only [procedureOf]
  case phSend | phRecv | phWait | phWaitm => exact .beginWait _ fun _ => Pos.noConfusion
  case phInit | dlInit => exact enterPhInit_issue 0
  case phReset => exact enterPhReset_issue 0
  case phStateq => exact enterStateQuery_issue
  case phReq => exact enterPhRequest_issue _
  case phAck =>
    split
    · exact .complete rfl rfl rfl rfl rfl rfl _
    · exact .of_frames (enterPhAck_frame _ s) (enterPhAck_device _ s)
  case phDatareq n u => exact enterDataRequest_issue n u
  case phDatarcv => exact enterDataReceive_issue (.inl rfl)
  case dlRecv => exact enterDataReceive_issue (.inr rfl)
  case txbufWr idx b =>
    split
    · exact ⟨rfl, rfl, rfl, .inl rfl, .inr (.inl ⟨idx, b, rfl⟩), id, fun _ => Pos.noConfusion⟩
    · exact .complete rfl rfl rfl rfl rfl rfl _
  case rxbufRd =>
    split <;> apply IssueFrame.complete <;> rfl
  case dlSend f a p d l y =>
    obtain ⟨m, hm⟩ := build_frame f a p d l y s
    rw [hm]
    obtain ⟨htxs, hrxs, hrx, ha, -, hph, hpos⟩ := enterDataRequest_issue (i := .dlSend f a p d l y)
      (s := { s with txBuf := m, txLen := 7#6 + l.setWidth 6 }) (7#6 + l.setWidth 6) Config.tDl
    exact ⟨htxs, hrxs, hrx, ha, .inr (.inr ⟨f, a, p, d, l, y, rfl⟩), hph, hpos⟩
  case dlSetaddr a => exact ⟨rfl, rfl, rfl, .inr ⟨a, rfl⟩, .inl rfl, id, fun _ => Pos.noConfusion⟩
  case tInit | tStart | tStop | tReset | tState | tTicks | tElapsed | phGetstate | dlGetaddr =>
    apply IssueFrame.complete <;> rfl
  all_goals cases hi

end Issue

/-! ### The wire rows -/

/-- Only a send position hands over a byte. -/
theorem Pos.attempt_of_sendByte {p : Pos} {m : Memory} {b : Byte} (h : p.sendByte m = some b) :
    p.attempt = some .send := by
  revert h
  cases p <;> simp [Pos.sendByte, Pos.attempt]

/-- A send attempt is the engine's own, and then its turn; else it touches the inputs and `TXS` only (R54, R56). -/
theorem sendAttempt_cases (b : Byte) (s : State) :
    sendAttempt b s = turn s ∨ ∃ is txs, sendAttempt b s = { s with inputs := is, txs := txs } := by
  cases ht : takeTx s.inputs with
  | none => exact .inr ⟨s.inputs, s.txs, by simp [sendAttempt, ht]⟩
  | some r =>
    obtain ⟨a, rest⟩ := r
    by_cases hp : s.pendingSend = some b
    · obtain ⟨hb, hbyte⟩ : s.engBusy = true ∧ s.pos.sendByte s.txBuf = some b := by
        simpa [State.pendingSend] using hp
      have hsend := Pos.attempt_of_sendByte hbyte
      have hm := engineMove_send hb hsend ht
      exact .inl ((sendAttempt_eq_turn hsend hbyte hm).trans (turn_of_engineMove hm).symm)
    · refine .inr ?_
      simp only [sendAttempt, ht, if_neg hp]
      split
      · exact ⟨rest, s.txs ++ [b], rfl⟩
      · exact ⟨rest, s.txs, rfl⟩

/-- A byte handed over is an answer for the engine's receive attempt, and then its turn; else it is held (R57). -/
theorem receiveByte_cases (b : Byte) (s : State) :
    ∃ is, receiveByte b s = turn (s.setInputs is) ∨ receiveByte b s = s.setInputs is := by
  refine ⟨.rx (.ok b) :: s.inputs, ?_⟩
  unfold receiveByte
  split
  next hr =>
    obtain ⟨hb, hp⟩ : s.engBusy = true ∧ s.pos.attempt = some .receive := by simpa [State.receiving] using hr
    have hm : engineMove (s.setInputs (.rx (.ok b) :: s.inputs)) = some (receiveStep (.ok b) s) :=
      engineMove_receive (s := s.setInputs _) hb hp (takeRx_rx _ _)
    exact .inl (turn_of_engineMove hm).symm
  next => exact .inr rfl

end Sys2Proof.Machine

namespace Sys2Proof.Claims

open Sys2Proof.Machine

/-- Settles O49: the step refuses the command before it is decoded, and every host command's meaning is an issue. -/
theorem commandWhileBusyIsRefused : Obligations.CommandWhileBusyIsRefused := by
  intro s hb
  refine ⟨fun w rest hm ht => step_command_busy hm ht hb, fun i hi => ?_⟩
  rw [exec_command hi, issue_busy hb]

/-- Settles O50: an engine step adds at most a byte to each stream, and nothing else in a step touches them. -/
theorem streamsOnlyGrow : Obligations.StreamsOnlyGrow := by
  intro s t hstep
  have hsame : s.txs <+: s.txs ∧ s.rxs <+: s.rxs := ⟨List.prefix_rfl, List.prefix_rfl⟩
  rcases step_cases hstep with ⟨u, hm, rfl⟩ | ⟨rest, i, hi, rfl⟩ | ⟨rest, rfl⟩ | ⟨rest, rfl⟩ | ⟨rest, rfl⟩ | rfl
  · rw [← turn_of_engineMove hm]
    exact turn_streams s
  · have hissue := procedureOf_issue hi ((s.setInputs rest).latch i)
    have hturn := turn_streams (procedureOf i ((s.setInputs rest).latch i))
    rwa [hissue.txs, hissue.rxs] at hturn
  · exact hsame
  · rw [State.tickEvent_eq]; exact hsame
  · exact hsame
  · exact hsame

/-- Settles O51: no turn writes the address, and of the procedures only that of `DL_SETADDR` does. -/
theorem onlySetaddrWritesTheAddress : Obligations.OnlySetaddrWritesTheAddress := by
  intro i s t hx hset
  rcases exec_cases hx with ⟨hi, -, rfl⟩ | ⟨b, rfl⟩ | ⟨b, rfl⟩ | ⟨-, k, b, rfl⟩
  · rw [turn_localAddr]
    exact (procedureOf_issue hi (s.latch i)).localAddr.resolve_right fun ⟨a, ha⟩ => hset a ha
  · rcases sendAttempt_cases b s with h | ⟨_, _, h⟩ <;> rw [h]
    exact turn_localAddr s
  · obtain ⟨is, h | h⟩ := receiveByte_cases b s <;> rw [h]
    · exact turn_localAddr _
    · rfl
  · rfl

/-- Settles O52: no turn writes `TXBUF`, and only a turn that begins inside `data_receive` writes `RXBUF`. -/
theorem bufferWriters : Obligations.BufferWriters := by
  intro i s t hx
  rcases exec_cases hx with ⟨hi, -, rfl⟩ | ⟨b, rfl⟩ | ⟨b, rfl⟩ | ⟨hplace, k, b, rfl⟩
  · have hissue := procedureOf_issue hi (s.latch i)
    constructor
    · rw [turn_txBuf]
      intro h
      exact (hissue.txBuf.resolve_left h).imp id .inl
    · intro h
      rcases turn_rxBuf (procedureOf i (s.latch i)) with hrx | ⟨-, n, hn⟩
      · exact absurd (hrx.trans hissue.rxBuf) h
      · exact (hissue.pos n hn).imp id .inl
  · rcases sendAttempt_cases b s with h | ⟨_, _, h⟩ <;> rw [h]
    · exact ⟨fun htx => absurd (turn_txBuf s) htx, fun hrx => .inr (.inr ((turn_rxBuf s).resolve_left hrx))⟩
    · exact ⟨fun htx => absurd rfl htx, fun hrx => absurd rfl hrx⟩
  · obtain ⟨is, h | h⟩ := receiveByte_cases b s <;> rw [h]
    · exact ⟨fun htx => absurd (turn_txBuf _) htx,
        fun hrx => .inr (.inr ((turn_rxBuf (s.setInputs is)).resolve_left hrx))⟩
    · exact ⟨fun htx => absurd rfl htx, fun hrx => absurd rfl hrx⟩
  · exact ⟨fun _ => .inr (.inr hplace), fun hrx => absurd rfl hrx⟩

/-- Settles O53: an engine step's writes of `busy`, by the position it is made at. -/
theorem busyWriters : Obligations.BusyWriters :=
  fun _ _ hm hne => (engineMove_device hm).busy.resolve_left hne

/-- Settles O55: every write of `ph_state`, by an engine step, a command or the hardware reset, is of another state. -/
theorem stoppedIsNeverEntered : Obligations.StoppedIsNeverEntered := by
  intro s t hstep hs
  rcases step_cases hstep with ⟨u, hm, rfl⟩ | ⟨rest, i, hi, rfl⟩ | ⟨rest, rfl⟩ | ⟨rest, rfl⟩ | ⟨rest, rfl⟩ | rfl
  · exact turn_not_stopped (engineMove_not_stopped hs hm)
  · exact turn_not_stopped ((procedureOf_issue hi ((s.setInputs rest).latch i)).phState hs)
  · exact hs
  · rw [State.tickEvent_eq]; exact hs
  · exact PhState.noConfusion
  · exact hs

/-- Settles O1: each register of the table of R33 is a field of the reset state. -/
theorem resetHoldsTheStatedValues : Obligations.ResetHoldsTheStatedValues :=
  ⟨rfl, rfl, rfl, rfl, rfl, rfl, rfl, rfl, rfl, rfl, rfl⟩

/-- Settles O45: an idle engine makes no step of its own, so the command is what the step fetches. -/
theorem stepRunsTheDecodedCommand : Obligations.StepRunsTheDecodedCommand :=
  fun _ _ _ _ hb ht hd => step_command_idle hb ht hd

/-- Settles O58: the engine is idle, so only the buffers, the code and the device state have something to meet. -/
theorem resetMeetsTheInvariant : Obligations.ResetMeetsTheInvariant where
  engine := ⟨rfl, rfl⟩
  buffers := by unfold State.BufferInv; decide
  code := ⟨.none, rfl⟩
  device := PhState.noConfusion
  timer hb := Bool.noConfusion hb
  check hb := Bool.noConfusion hb

end Sys2Proof.Claims
end

section
/-! SUPPORT. The wire rows as transport attempts (R54, R56, R80 to R85): a row is an attempt of its own byte, and what one
attempt adds to the streams. -/

namespace Sys2Proof.Machine

/-! ### A wire row is an attempt of its own byte -/

/-- R80 to R82: the meaning of a row to the transport. -/
theorem exec_toTransport {i : Instr} (hi : Claims.toTransport i) (s : State) :
    exec i s = .next (sendAttempt (encodeByte i) s) := by
  cases i
  case wResetReq | wStateQuery | wActivateBusmonitor | wAckinfoBase | wAckAddressed | wAckBusy | wAckNack
      | wProductIdQuery | wActivateBusyMode | wDeactivateBusyMode | wSetMaxRetryCount | wActivateChecksum
      | wSetAddress | wDataStart => rfl
  case wDataContinue | wDataEnd => rw [encodeByte, encodeNat, BitVec.ofNat_toNat, BitVec.setWidth_eq]; rfl
  all_goals simp [Claims.toTransport, Instr.slot] at hi

/-- R83 to R85: the meaning of a row from the transport. -/
theorem exec_fromTransport {i : Instr} (hi : Claims.fromTransport i) (s : State) :
    exec i s = .next (receiveByte (encodeByte i) s) := by
  cases i
  case wResetIndication | wDataConfirmSuccess | wDataConfirmFailed => rfl
  case wStateIndication | wDataConfirmOther => rw [encodeByte, encodeNat, BitVec.ofNat_toNat, BitVec.setWidth_eq]; rfl
  all_goals simp [Claims.fromTransport, Instr.slot] at hi

/-! ### The engine's own attempt -/

/-- A pending byte is that of a busy engine at a send position. -/
theorem State.pendingSend_eq_some {s : State} {b : Byte} (h : s.pendingSend = some b) :
    s.engBusy = true ∧ s.pos.attempt = some .send ∧ s.pos.sendByte s.txBuf = some b := by
  obtain ⟨hb, hbyte⟩ : s.engBusy = true ∧ s.pos.sendByte s.txBuf = some b := by simpa [State.pendingSend] using h
  exact ⟨hb, Pos.attempt_of_sendByte hbyte, hbyte⟩

theorem State.receiving_iff {s : State} : s.receiving = true ↔ s.engBusy = true ∧ s.pos.attempt = some .receive := by
  simp [State.receiving]

/-- R54, R56: an answered attempt of a byte that is not the engine's pending one. -/
theorem sendAttempt_of_not_pending {s : State} {b : Byte} {a : SendAnswer} {rest : List Input}
    (hp : s.pendingSend ≠ some b) (ht : takeTx s.inputs = some (a, rest)) :
    sendAttempt b s = { s with inputs := rest, txs := if a = .ok then s.txs ++ [b] else s.txs } := by
  simp only [sendAttempt, ht, if_neg hp]
  split <;> rfl

/-! ### What one attempt adds to the streams -/

theorem sendStep_ok_txs {s : State} {b : Byte} (h : s.pos.sendByte s.txBuf = some b) :
    (sendStep .ok s).txs = s.txs ++ [b] := by
  rw [sendStep_ok h]
  exact (afterSend_frame _ _ _).txs

theorem sendStep_missed_txs {s : State} {a : SendAnswer} (h : s.pos.attempt = some .send) (ha : a ≠ .ok) :
    (sendStep a s).txs = s.txs := by
  rw [sendStep_missed h ha]
  split
  · exact (afterSend_frame _ _ _).txs
  · exact State.pollUpdate_txs s

/-- Accepted or lost, a byte the transport answers is consumed (R54, R132 to R134). -/
theorem receiveStep_ok_rxs (b : Byte) (s : State) : (receiveStep (.ok b) s).rxs = s.rxs ++ [b] := by
  cases h : s.pos.accepts b with
  | true =>
    rw [receiveStep_accepted h]
    exact (afterReceive_frame _ _ _).rxs
  | false =>
    rw [receiveStep_lost h]
    split
    · exact (afterDeadline_frame _ _).rxs
    · exact (pollUpdate_frame _).rxs

end Sys2Proof.Machine

namespace Sys2Proof.Claims

open Sys2Proof.Machine

/-- Settles O39: the row is a send attempt of its byte, which is the engine's step exactly where that byte is pending. -/
theorem wireBytesToTransport : Obligations.WireBytesToTransport := by
  intro i s a rest hi _ ht
  rw [exec_toTransport hi]
  refine ⟨fun hp => by rw [sendAttempt_of_not_pending hp ht], fun hp => ?_⟩
  obtain ⟨hb, hsend, hbyte⟩ := State.pendingSend_eq_some hp
  have hm := engineMove_send hb hsend ht
  refine ⟨_, hm, by rw [sendAttempt_eq_turn hsend hbyte hm], ?_, sendStep_missed_txs (s := s.setInputs rest) hsend⟩
  rintro rfl
  exact sendStep_ok_txs (s := s.setInputs rest) hbyte

/-- Settles O40: the row hands its byte over, to the engine's step where it is at a receive attempt, else to the inputs. -/
theorem wireBytesFromTransport : Obligations.WireBytesFromTransport := by
  intro i s hi _
  rw [exec_fromTransport hi]
  constructor
  · intro hr
    obtain ⟨hb, hrecv⟩ := State.receiving_iff.mp hr
    have hm : engineMove (s.setInputs (.rx (.ok (encodeByte i)) :: s.inputs)) =
        some (receiveStep (.ok (encodeByte i)) s) :=
      engineMove_receive (s := s.setInputs _) hb hrecv (takeRx_rx _ _)
    exact ⟨_, hm, by rw [receiveByte, if_pos hr], receiveStep_ok_rxs _ s⟩
  · intro hr
    simp [receiveByte, hr, State.setInputs]

end Sys2Proof.Claims
end

section
/-! SUPPORT. The decoder and the encoder (R70 to R72, R80 to R91): each reads back what the other wrote. -/

namespace Sys2Proof

/-! ### Host commands -/

/-- A field of an instruction's word. -/
theorem field_encode (i : Instr) {lo len : Nat} (h : lo + len ≤ 152) :
    (encode i).extractLsb' lo len = BitVec.ofNat len (encodeNat i / 2 ^ lo) := by
  apply BitVec.eq_of_toNat_eq
  rw [encode, BitVec.extractLsb'_toNat, BitVec.toNat_ofNat, BitVec.toNat_ofNat, Nat.shiftRight_eq_div_pow]
  obtain ⟨k, hk⟩ := Nat.exists_eq_add_of_le h
  rw [hk, pow_add, pow_add, Nat.mul_assoc, Nat.mod_mul_right_div_self, Nat.mod_mul_right_mod]

/-- The op of a command's word. -/
theorem toNat_op_encode (i : Instr) : ((encode i).extractLsb' 0 8).toNat = encodeNat i % 256 := by
  rw [field_encode i (by omega), BitVec.toNat_ofNat, pow_zero, Nat.div_one]

/-- What lies above the low byte is no part of it. -/
theorem low_byte (a k x : Nat) : (a + 2 ^ (k + 8) * x) % 256 = a % 256 := by
  rw [pow_add, Nat.mul_right_comm]
  exact Nat.add_mul_mod_self_right _ _ _

/-- The payload of a `DL_SEND` comes back from its word. -/
theorem payload_encode {f a : BitVec 1} {p : BitVec 2} {d : Addr} {l : BitVec 4} {y : List Byte}
    (hw : (Instr.dlSend f a p d l y).wellFormed = true) :
    payloadOfNat 15 ((encode (.dlSend f a p d l y)).toNat / 2 ^ 32) = y := by
  have hfit := Laws.EncodeFits.dlSend f a p d l y hw
  have hlen : y.length = 15 := by simpa [Instr.wellFormed, Config.maxPayload] using hw
  have hnum : encodeNat (.dlSend f a p d l y) / 2 ^ 32 = natOfPayload y := by
    simp only [encodeNat]
    omega
  rw [encode, BitVec.toNat_ofNat, Nat.mod_eq_of_lt hfit, hnum, payloadOfNat_natOfPayload y hlen]

/-- R70 to R72: the op selects the command's row, and each field is read where it was packed. -/
theorem decodeCommand_encode {i : Instr} (hi : i.slot = .command) (hw : i.wellFormed = true) :
    decodeCommand (encode i) = .ok i := by
  have hop := toNat_op_encode i
  cases i
  case tInit | tStop | tReset | tState | tTicks | phInit | phReset | phStateq | phDatarcv | phGetstate | dlInit | dlRecv
      | dlGetaddr => rfl
  case tStart | tElapsed | phSend | phRecv | phWait | phWaitm | phReq | phAck | phDatareq | txbufWr | rxbufRd
      | dlSetaddr =>
    simp only [encodeNat, low_byte, Nat.reduceMod, -Nat.reducePow] at hop
    simp only [decodeCommand, hop]
    simp [field_encode, encodeNat]
    bv_omega
  case dlSend f a p d l y =>
    simp only [encodeNat, low_byte, Nat.reduceMod, -Nat.reducePow] at hop
    simp only [decodeCommand, hop, payload_encode hw]
    simp [field_encode, encodeNat]
    bv_omega
  all_goals cases hi

/-! ### The bytes of the wire and of the frame -/

/-- R81: the index of a Continue marker. -/
theorem extractLsb'_dataContinueByte (i : BitVec 6) : (dataContinueByte i).extractLsb' 0 6 = i := by
  revert i; decide

/-- R81: the length in an End marker. -/
theorem extractLsb'_dataEndByte (n : BitVec 6) : (dataEndByte n).extractLsb' 0 6 = n := extractLsb'_dataContinueByte n

/-- R84: the five status flags and the mask. -/
theorem decodeByte_stateIndicationByte (s r e t w : Bool) :
    decodeByte .rxState (stateIndicationByte s r e t w) = .ok (.wStateIndication s r e t w) := by
  revert s r e t w; decide

/-- R85: a byte of the confirm pattern, where it is neither of the two exact rows. -/
theorem decodeByte_dataConfirmOtherByte {high : BitVec 4} {bit2 : Bool}
    (hw : (Instr.wDataConfirmOther high bit2).wellFormed = true) :
    decodeByte .rxConfirm (dataConfirmOtherByte high bit2) = .ok (.wDataConfirmOther high bit2) := by
  revert high bit2; decide

/-- R87: the fields of a control byte. -/
theorem decodeByte_controlByte (f : BitVec 1) (p : BitVec 2) :
    decodeByte .frameControl (controlByte f p) = .ok (.frControl f p) := by
  revert f p; decide

/-- R88: the fields of an address-type and length byte. -/
theorem decodeByte_addrLenByte (a : BitVec 1) (l : BitVec 4) :
    decodeByte .frameAddrlen (addrLenByte a l) = .ok (.frAddrlen a l) := by
  revert a l; decide

/-- R80 to R88: the byte of a wire or frame row is read back in the row's slot. -/
theorem decodeByte_encodeByte {i : Instr} (hi : i.slot ≠ .command) (hw : i.wellFormed = true) :
    decodeByte i.slot (encodeByte i) = .ok i := by
  cases i
  case wResetReq | wStateQuery | wActivateBusmonitor | wAckinfoBase | wAckAddressed | wAckBusy | wAckNack
      | wProductIdQuery | wActivateBusyMode | wDeactivateBusyMode | wSetMaxRetryCount | wActivateChecksum
      | wSetAddress | wDataStart | wResetIndication | wDataConfirmSuccess | wDataConfirmFailed => rfl
  case wDataContinue i =>
    simp [encodeByte, encodeNat, Instr.slot, decodeByte, extractLsb'_dataContinueByte, hw]
  case wDataEnd n =>
    simp [encodeByte, encodeNat, Instr.slot, decodeByte, extractLsb'_dataEndByte, hw]
  case wStateIndication | wDataConfirmOther | frControl | frAddrlen =>
    simp [encodeByte, encodeNat, Instr.slot, decodeByte_stateIndicationByte, decodeByte_dataConfirmOtherByte,
      decodeByte_controlByte, decodeByte_addrLenByte, hw]
  case frSrcHi | frSrcLo | frDstHi | frDstLo | frPayload | frChecksum =>
    simp [encodeByte, encodeNat, Instr.slot, decodeByte, hw]
  all_goals exact absurd rfl hi

/-! ### Every slot -/

/-- A word of the wire or of a frame is its low byte. -/
theorem decode_of_ne_command {slot : Slot} (h : slot ≠ .command) (w : CmdWord) :
    decode slot w = decodeByte slot (w.extractLsb' 0 8) := by
  cases slot
  case command => exact absurd rfl h
  all_goals rfl

theorem low_encode (i : Instr) : (encode i).extractLsb' 0 8 = encodeByte i := by
  rw [field_encode i (by omega), pow_zero, Nat.div_one, encodeByte]

theorem decode_encode {i : Instr} (hw : i.wellFormed = true) : decode i.slot (encode i) = .ok i := by
  by_cases hi : i.slot = .command
  · rw [hi]
    exact decodeCommand_encode hi hw
  · rw [decode_of_ne_command hi, low_encode]
    exact decodeByte_encodeByte hi hw

/-! ### What the decoder accepts -/

/-- R71: a decoded `DL_SEND` has fifteen payload bytes; the other commands' operands have their fields' widths. -/
theorem wellFormed_of_decodeCommand {w : CmdWord} {i : Instr} (h : decodeCommand w = .ok i) : i.wellFormed = true := by
  simp only [decodeCommand] at h
  split at h <;> cases h
  case h_23 => simp [Instr.wellFormed, Config.maxPayload]
  all_goals rfl

/-- R85: what the confirm mask accepts beside the two exact rows is a row of the pattern. -/
theorem dataConfirmOther_wellFormed : ∀ b : Byte, b ≠ 0x8B#8 → b ≠ 0x0B#8 → b &&& 0x0B#8 = 0x0B#8 →
    (Instr.wDataConfirmOther (b.extractLsb' 4 4) (b.getLsbD 2)).wellFormed = true := by decide

theorem decodeService_sound {b : Byte} {i : Instr} (h : decodeService b = .ok i) :
    i.wellFormed = true ∧ i.slot = .txService := by
  unfold decodeService at h
  split at h <;> cases h <;> exact ⟨rfl, rfl⟩

/-- R80 to R88: the ranges that the fields' widths do not give are among the decoder's tests. -/
theorem decodeByte_sound {slot : Slot} {b : Byte} {i : Instr} (h : decodeByte slot b = .ok i) :
    i.wellFormed = true ∧ i.slot = slot := by
  cases slot
  all_goals simp only [decodeByte] at h
  case command => cases h
  case txService => exact decodeService_sound h
  case frameSrcHi | frameSrcLo | frameDstHi | frameDstLo | frameChecksum => cases h; exact ⟨rfl, rfl⟩
  case txStart | rxReset | rxState | frameControl | frameAddrlen => split at h <;> cases h; exact ⟨rfl, rfl⟩
  case txContinue | txEnd =>
    split at h <;> cases h
    next hb => exact ⟨hb.2, rfl⟩
  case framePayload =>
    split at h <;> cases h
    exact ⟨‹_›, rfl⟩
  case rxConfirm =>
    split at h
    next => cases h; exact ⟨rfl, rfl⟩
    next hsuccess =>
      split at h
      next => cases h; exact ⟨rfl, rfl⟩
      next hfailed =>
        split at h <;> cases h
        next hmask => exact ⟨dataConfirmOther_wellFormed b hsuccess hfailed hmask, rfl⟩

theorem decode_sound {slot : Slot} {w : CmdWord} {i : Instr} (h : decode slot w = .ok i) :
    i.wellFormed = true ∧ i.slot = slot := by
  by_cases hs : slot = .command
  · subst hs
    exact ⟨wellFormed_of_decodeCommand h, Machine.slot_of_decode_command h⟩
  · exact decodeByte_sound (decode_of_ne_command hs w ▸ h)

/-! ### What the decoder refuses -/

/-- The codes of R72. -/
def opcodes : List Byte :=
  [0x00#8, 0x01#8, 0x02#8, 0x03#8, 0x04#8, 0x05#8, 0x06#8, 0x10#8, 0x11#8, 0x12#8, 0x13#8, 0x20#8, 0x21#8, 0x22#8,
    0x23#8, 0x24#8, 0x25#8, 0x26#8, 0x27#8, 0x28#8, 0x29#8, 0x30#8, 0x31#8, 0x32#8, 0x33#8, 0x34#8]

theorem mem_opcodes_of_toNat_eq {b : Byte} {n : Nat} (h : b.toNat = n) (hn : BitVec.ofNat 8 n ∈ opcodes) :
    b ∈ opcodes := by
  subst h
  simpa using hn

/-- R91 a: a word whose op R72 does not list is no command. -/
theorem decodeCommand_of_not_mem {w : CmdWord} (h : w.extractLsb' 0 8 ∉ opcodes) :
    decodeCommand w = .error (.illegalOp (w.extractLsb' 0 8)) := by
  unfold decodeCommand
  dsimp only
  split
  case h_27 => rfl
  all_goals
    rename_i hop
    exact absurd (mem_opcodes_of_toNat_eq hop (by decide)) h

end Sys2Proof

namespace Sys2Proof.Machine

/-- R91 a: an illegal command completes as it is issued. -/
theorem step_illegal {s : State} {w : CmdWord} {rest : List Input} {e : DecodeError} (hb : s.engBusy = false)
    (ht : takeEvent s.inputs = some (.command w, rest)) (hd : decode .command w = .error e) :
    step s = .next (s.setInputs rest).illegalCommand := by
  have hm := engineMove_idle hb
  simp [step, fetch, wireInstr_of_engineMove_none hm, ht, hb, hd]

/-- R86 to R89: a frame row is one write of its own byte into `TXBUF`, at its own place. -/
theorem exec_frame {i : Instr} {p : Nat} (hp : Claims.framePlace i.slot = some p) (s : State) :
    exec i s = .next (s.writeTx p (encodeByte i)) := by
  cases i
  case frControl | frSrcHi | frSrcLo | frDstHi | frDstLo | frAddrlen | frPayload | frChecksum =>
    cases hp
    rw [encodeByte, encodeNat, BitVec.ofNat_toNat, BitVec.setWidth_eq]
    rfl
  all_goals cases hp

end Sys2Proof.Machine

namespace Sys2Proof.Claims

open Sys2Proof.Machine

/-- Settles O42: a command is its op and its fields, every other row its byte. -/
theorem decodeOfEncode : Obligations.DecodeOfEncode := fun _ => decode_encode

/-- Settles O41: the row is one write into `TXBUF`, and a write changes the byte at its place only. -/
theorem frameBytesGoToTheirPlaces : Obligations.FrameBytesGoToTheirPlaces := by
  intro i s p hp _ hwf
  exact ⟨_, exec_frame hp s, rfl, Memory.read_write_same hwf p _, fun _ ha => Memory.read_write_other hwf _ ha⟩

/-- Settles O43: each slot's decoder tests the ranges that the operands' widths do not give. -/
theorem decodedIsWellFormed : Obligations.DecodedIsWellFormed := fun _ _ _ => decode_sound

/-- Settles O44: the decoder is run on each word. -/
theorem sampleWordsDecode : Obligations.SampleWordsDecode := by
  unfold Obligations.SampleWordsDecode
  decide

/-- Settles O48: the decoder refuses the word, and a refused word completes with `Request`. -/
theorem illegalOpCompletesWithRequest : Obligations.IllegalOpCompletesWithRequest :=
  fun _ _ _ hb ht hop => step_illegal hb ht (decodeCommand_of_not_mem hop)

end Sys2Proof.Claims
end

section
/-! SUPPORT. The timer (R110 to R118): the elapsed predicate by its three cases, the commands that complete as they are
issued, and the tick as a step of the machine. -/

namespace Sys2Proof.Machine

/-! ### The elapsed predicate (R117, R118) -/

/-- The infinite budget never elapses. -/
theorem hasElapsed_infinite (ticks ref : Tick) : hasElapsed ticks ref 0xFFFFFFFF#32 = (false, ref, 0xFFFFFFFF#32) :=
  if_pos rfl

section Finite

variable {ticks ref budget : Tick} (hfin : budget ≠ 0xFFFFFFFF#32)
include hfin

/-- At or past the budget the operands come back unchanged (D3). -/
theorem hasElapsed_of_le (h : budget.toNat ≤ (ticks - ref).toNat) : hasElapsed ticks ref budget = (true, ref, budget) :=
  (if_neg hfin).trans (if_pos h)

/-- Before it the reference advances to the counter and the budget shrinks. -/
theorem hasElapsed_of_lt (h : (ticks - ref).toNat < budget.toNat) :
    hasElapsed ticks ref budget = (false, ticks, budget - (ticks - ref)) :=
  (if_neg hfin).trans (if_neg (Nat.not_le.mpr h))

theorem hasElapsed_flag_iff : (hasElapsed ticks ref budget).1 = true ↔ budget.toNat ≤ (ticks - ref).toNat := by
  by_cases h : budget.toNat ≤ (ticks - ref).toNat
  · rw [hasElapsed_of_le hfin h]
    exact iff_of_true rfl h
  · rw [hasElapsed_of_lt hfin (Nat.not_le.mp h)]
    exact iff_of_false Bool.false_ne_true h

end Finite

/-- R118: between two values of the counter, `c` and `c + d` ticks after a reference, lie `d` ticks, whether or not the
counter has wrapped. -/
theorem toNat_ticks_between (ref : Tick) {c d : Nat} (h : d < 2 ^ 32) :
    (ref + BitVec.ofNat 32 (c + d) - (ref + BitVec.ofNat 32 c)).toNat = d := by
  have hsub : ref + BitVec.ofNat 32 (c + d) - (ref + BitVec.ofNat 32 c) = BitVec.ofNat 32 d := by
    rw [BitVec.ofNat_add]
    abel
  rw [hsub, BitVec.toNat_ofNat, Nat.mod_eq_of_lt h]

/-- R118, from the reference itself. -/
theorem toNat_ticks_since (ref : Tick) {c : Nat} (h : c < 2 ^ 32) : (ref + BitVec.ofNat 32 c - ref).toNat = c := by
  simpa using toNat_ticks_between ref (c := 0) h

/-! ### Commands that complete as they are issued -/

/-- A host command whose procedure runs to completion leaves the engine nothing to do in its turn. -/
theorem exec_of_finished {i : Instr} {s t : State} {c : BitVec 4} (hi : i.slot = .command) (hb : s.engBusy = false)
    (hp : procedureOf i (s.latch i) = Claims.finished c t) : exec i s = .next (Claims.finished c t) := by
  rw [exec_command hi, issue_idle hb, hp, turn_idle rfl]

/-- R117: the result registers take what the elapsed predicate answers. -/
theorem exec_tElapsed {s : State} (hb : s.engBusy = false) (ref budget : Tick) :
    exec (.tElapsed ref budget) s = .next (Claims.finished 0#4
      { s with
        resFlag := BitVec.ofBool (hasElapsed s.ticks ref budget).1
        resRef := (hasElapsed s.ticks ref budget).2.1
        resBudget := (hasElapsed s.ticks ref budget).2.2 }) :=
  exec_of_finished rfl hb rfl

/-! ### The tick event (R112) -/

/-- No attempt has its answer behind a tick (log 3). -/
theorem engineMove_tick {s : State} {rest : List Input} (h : s.inputs = .tick :: rest) : engineMove s = none := by
  cases hm : engineMove s with
  | none => rfl
  | some t =>
    obtain ⟨-, ⟨a, r, -, ht, -⟩ | ⟨a, r, -, ht, -⟩ | ⟨a, r, -, ht, -⟩⟩ := engineMove_cases hm
    all_goals
      rw [h] at ht
      cases ht

/-- A tick at the head of the inputs is what the step takes, whatever the engine is doing. -/
theorem step_tick {s : State} {rest : List Input} (h : s.inputs = .tick :: rest) :
    step s = .next (s.setInputs rest).tickEvent := by
  have hm := engineMove_tick h
  simp [step, fetch, wireInstr_of_engineMove_none hm, hm, h, takeEvent]

end Sys2Proof.Machine

namespace Sys2Proof.Claims

open Sys2Proof.Machine

/-- Settles O10: the first poll finds `c` ticks gone and leaves the budget less `c`; the second finds `d` more. -/
theorem repeatedPollsConverge : Obligations.RepeatedPollsConverge := by
  intro ref budget c d hfin hcd hc
  have hsince := toNat_ticks_since ref (c := c) (by omega)
  have hbetween := toNat_ticks_between ref (c := c) (d := d) (by omega)
  have hfirst := hasElapsed_of_lt hfin (hsince.trans_lt hc)
  have hleft : (budget - (ref + BitVec.ofNat 32 c - ref)).toNat = budget.toNat - c := by
    rw [BitVec.toNat_sub_of_le (by rw [BitVec.le_def, hsince]; exact hc.le), hsince]
  have hfin' : budget - (ref + BitVec.ofNat 32 c - ref) ≠ 0xFFFFFFFF#32 := by bv_omega
  simp only [hfirst]
  refine ⟨trivial, ?_⟩
  rw [hasElapsed_flag_iff hfin', hleft, hbetween]
  omega

/-- Settles O3: the procedure is `timer_init` and completion. -/
theorem timerInit : Obligations.TimerInit := fun _ hb => exec_of_finished rfl hb rfl

/-- Settles O4: the procedure is `timer_start`, which stores no timeout, and completion. -/
theorem timerStart : Obligations.TimerStart := fun _ _ hb => exec_of_finished rfl hb rfl

/-- Settles O5: the step is the tick event, which counts exactly while the timer is running. -/
theorem tickEvent : Obligations.TickEvent := by
  intro s rest h
  rw [step_tick h, State.tickEvent_eq]
  constructor <;> intro hrun <;> simp [State.setInputs, hrun]

/-- Settles O6: the counter is read and left as it is. -/
theorem timerStop : Obligations.TimerStop := fun _ hb => exec_of_finished rfl hb rfl

/-- Settles O7: the counter is read before it is zeroed. -/
theorem timerReset : Obligations.TimerReset := fun _ hb => exec_of_finished rfl hb rfl

/-- Settles O8: each reader's procedure is one result register's write, of the code its register's value has. -/
theorem pureReaders : Obligations.PureReaders := by
  intro s hb
  refine ⟨⟨finished 0#4 { s with resTstate := s.timerState.code }, exec_of_finished rfl hb rfl, rfl, ?_⟩,
    exec_of_finished rfl hb rfl,
    ⟨finished 0#4 { s with resPhstate := s.phState.code }, exec_of_finished rfl hb rfl, rfl, ?_⟩⟩
  · exact ⟨congrArg TimerState.code, congrArg TimerState.code, congrArg TimerState.code⟩
  · exact ⟨congrArg PhState.code, congrArg PhState.code, congrArg PhState.code, congrArg PhState.code,
      congrArg PhState.code⟩

/-- Settles O9: one case of the elapsed predicate for each clause. -/
theorem elapsedPredicate : Obligations.ElapsedPredicate := by
  intro s ref budget hb
  rw [exec_tElapsed hb]
  refine ⟨?_, fun hfin hle => ?_, fun hfin hlt => ?_⟩
  · rintro rfl
    rw [hasElapsed_infinite]
    rfl
  · rw [hasElapsed_of_le hfin hle]
    rfl
  · rw [hasElapsed_of_lt hfin hlt]
    rfl

end Sys2Proof.Claims
end

section
/-! SUPPORT. One attempt of a wait (R119, R130) in the words of the statements: the answer that ends the wait, the
deadline, and the attempt that is made again; and the host commands that begin with a wait. -/

namespace Sys2Proof.Machine

open Sys2Proof.Claims

/-! ### The deadline check (R117, R119) -/

theorem pollFlag_iff_expired {s : State} : s.pollFlag = true ↔ expired s := s.pollFlag_eq_true

theorem pollUpdate_of_not_expired {s : State} (h : ¬ expired s) : s.pollUpdate = checked s := by
  have hflag : s.pollFlag = false := Bool.eq_false_iff.mpr (mt pollFlag_iff_expired.mp h)
  unfold checked
  split
  next hinf => exact State.pollUpdate_of_infinite hinf
  next hfin => exact State.pollUpdate_of_waiting hflag hfin

/-! ### An attempt that does not end its wait (R130) -/

section Send

variable {s : State} {a : SendAnswer} (hp : s.pos.attempt = some .send) (ha : a ≠ .ok)
include hp ha

theorem sendStep_expired (he : expired s) : sendStep a s = afterSend s.pos false s :=
  (sendStep_missed hp ha).trans (if_pos (pollFlag_iff_expired.mpr he))

theorem sendStep_not_expired (he : ¬ expired s) : sendStep a s = checked s := by
  rw [sendStep_missed hp ha, if_neg (mt pollFlag_iff_expired.mp he), pollUpdate_of_not_expired he]

end Send

section Receive

variable {s : State} {a : RecvAnswer} (ha : ∀ b, a = .ok b → s.pos.accepts b = false)
include ha

/-- The byte of the answer, if it has one, is lost; then the check. -/
theorem receiveStep_missed :
    receiveStep a s =
      if s.pollFlag then afterDeadline s.pos { s with rxs := s.rxs ++ heard a }
      else ({ s with rxs := s.rxs ++ heard a } : State).pollUpdate := by
  have hsilent : { s with rxs := s.rxs ++ [] } = s := by rw [List.append_nil]
  cases a with
  | ok b => exact receiveStep_lost (ha b rfl)
  | busy | error =>
    rw [heard, hsilent]
    exact receiveStep_silent (fun _ => RecvAnswer.noConfusion)

theorem receiveStep_expired (he : expired s) :
    receiveStep a s = afterDeadline s.pos { s with rxs := s.rxs ++ heard a } :=
  (receiveStep_missed ha).trans (if_pos (pollFlag_iff_expired.mpr he))

theorem receiveStep_not_expired (he : ¬ expired s) :
    receiveStep a s = checked { s with rxs := s.rxs ++ heard a } := by
  have he' : ¬ expired { s with rxs := s.rxs ++ heard a } := he
  rw [receiveStep_missed ha, if_neg (mt pollFlag_iff_expired.mp he), pollUpdate_of_not_expired he']

end Receive

/-! ### One engine step at a position (R131 to R134) -/

section Move

variable {s : State} {p : Pos} {rest : List Input} (hb : s.engBusy = true) (hpos : s.pos = p)
include hb hpos

/-- `Ok` ends a send whatever the deadline, and the byte joins `TXS`. -/
theorem engineMove_send_ok {b : Byte} (hbyte : p.sendByte s.txBuf = some b) (ht : takeTx s.inputs = some (.ok, rest)) :
    engineMove s = some (afterSend p true { s with inputs := rest, txs := s.txs ++ [b] }) := by
  subst hpos
  exact (engineMove_send hb (Pos.attempt_of_sendByte hbyte) ht).trans
    (congrArg some (sendStep_ok (s := s.setInputs rest) hbyte))

section Send

variable {a : SendAnswer} (hp : p.attempt = some .send) (ht : takeTx s.inputs = some (a, rest)) (ha : a ≠ .ok)
include hp ht ha

theorem engineMove_send_expired (he : expired s) :
    engineMove s = some (afterSend p false { s with inputs := rest }) := by
  subst hpos
  exact (engineMove_send hb hp ht).trans (congrArg some (sendStep_expired (s := s.setInputs rest) hp ha he))

theorem engineMove_send_not_expired (he : ¬ expired s) : engineMove s = some (checked { s with inputs := rest }) := by
  subst hpos
  exact (engineMove_send hb hp ht).trans (congrArg some (sendStep_not_expired (s := s.setInputs rest) hp ha he))

end Send

section Receive

variable (hp : p.attempt = some .receive)
include hp

/-- An accepted byte ends a receiving wait whatever the deadline. -/
theorem engineMove_receive_accepted {b : Byte} (ht : takeRx s.inputs = some (.ok b, rest)) (ha : p.accepts b = true) :
    engineMove s = some (afterReceive p b { s with inputs := rest, rxs := s.rxs ++ [b] }) := by
  subst hpos
  exact (engineMove_receive hb hp ht).trans (congrArg some (receiveStep_accepted (s := s.setInputs rest) ha))

variable {a : RecvAnswer} (ht : takeRx s.inputs = some (a, rest)) (ha : ∀ b, a = .ok b → p.accepts b = false)
include ht ha

theorem engineMove_receive_expired (he : expired s) :
    engineMove s = some (afterDeadline p { s with inputs := rest, rxs := s.rxs ++ heard a }) := by
  subst hpos
  exact (engineMove_receive hb hp ht).trans (congrArg some (receiveStep_expired (s := s.setInputs rest) ha he))

theorem engineMove_receive_not_expired (he : ¬ expired s) :
    engineMove s = some (checked { s with inputs := rest, rxs := s.rxs ++ heard a }) := by
  subst hpos
  exact (engineMove_receive hb hp ht).trans (congrArg some (receiveStep_not_expired (s := s.setInputs rest) ha he))

end Receive

end Move

/-! ### Host commands that begin with a wait (R29, R130) -/

section Issue

variable {i : Instr} {s : State} {t : Tick} {p : Pos} (hi : i.slot = .command) (hb : s.engBusy = false)
  (hp : procedureOf i (s.latch i) = (s.latch i).beginWait t p)
include hi hb hp

theorem exec_of_beginWait : exec i s = .next (turn (waiting t p (issued i s))) := by
  rw [exec_command hi, issue_idle hb, hp]
  rfl

/-- With the answer that ends the command at hand, it completes in the turn of its issue. -/
theorem exec_of_beginWait_finished {c : BitVec 4} {u : State}
    (hm : engineMove (waiting t p (issued i s)) = some (finished c u)) : exec i s = .next (finished c u) := by
  rw [exec_of_beginWait hi hb hp, turn_of_engineMove hm, turn_idle rfl]

end Issue

/-! ### The four waits of the host (R131 to R134) -/

theorem heard_of_ne_ok {a : RecvAnswer} (h : ∀ b, a ≠ .ok b) : heard a = [] := by
  cases a with
  | ok b => exact absurd rfl (h b)
  | busy | error => rfl

theorem waitByte_accepts_iff {x b : Byte} : (Pos.waitByte x).accepts b = true ↔ b = x := beq_iff_eq

theorem waitMask_accepts_iff {mask b : Byte} : (Pos.waitMask mask).accepts b = true ↔ b &&& mask = mask := beq_iff_eq

theorem waitByte_not_accepts {x : Byte} {a : RecvAnswer} (ha : a ≠ .ok x) (b : Byte) (h : a = .ok b) :
    (Pos.waitByte x).accepts b = false :=
  Bool.eq_false_iff.mpr fun hacc => ha (waitByte_accepts_iff.mp hacc ▸ h)

theorem waitMask_not_accepts {mask : Byte} {a : RecvAnswer} (ha : ∀ b, a = .ok b → b &&& mask ≠ mask) (b : Byte)
    (h : a = .ok b) : (Pos.waitMask mask).accepts b = false :=
  Bool.eq_false_iff.mpr fun hacc => ha b h (waitMask_accepts_iff.mp hacc)

/-! ### A wait run by the machine's own steps (R112, R135) -/

/-- A wait of at least one tick has not expired as it begins. -/
theorem not_expired_waiting {t : Tick} (ht : 0 < t.toNat) (p : Pos) (s : State) : ¬ expired (waiting t p s) := by
  simp only [expired, waiting, BitVec.sub_self, BitVec.toNat_zero]
  omega

/-- A check before the first tick leaves the whole budget. -/
theorem checked_waiting (t : Tick) (p : Pos) (s : State) : checked (waiting t p s) = waiting t p s := by
  unfold checked
  split
  · rfl
  · simp [waiting]

/-- A receive attempt that finds no byte before the first tick leaves the wait as it began. -/
theorem engineMove_waiting_silent {s : State} {t : Tick} {p : Pos} {a : RecvAnswer} {rest : List Input}
    (hb : s.engBusy = true) (hp : p.attempt = some .receive) (ht : 0 < t.toNat)
    (htake : takeRx s.inputs = some (a, rest)) (ha : ∀ b, a ≠ .ok b) :
    engineMove (waiting t p s) = some (waiting t p (s.setInputs rest)) := by
  have hmove := engineMove_receive_not_expired (s := waiting t p s) hb rfl hp htake (fun b h => absurd h (ha b))
    (not_expired_waiting ht p s)
  rw [heard_of_ne_ok ha, List.append_nil] at hmove
  exact hmove.trans (congrArg some (checked_waiting t p (s.setInputs rest)))

theorem run_of_step {s t : State} (h : step s = .next t) (n : Nat) : core.run (n + 1) s = core.run n t := by
  simp only [Host.Core.run, show core.step s = .next t from h]

/-- `k` ticks at the head of the inputs of a running timer are `k` steps, which count them. -/
theorem run_ticks {s : State} {k : Nat} {rest : List Input} (hrun : s.timerState = .running)
    (h : s.inputs = List.replicate k .tick ++ rest) (n : Nat) :
    core.run (n + k) s = core.run n { s with inputs := rest, ticks := s.ticks + BitVec.ofNat 32 k } := by
  induction k generalizing s with
  | zero =>
    subst h
    simp
  | succ k ih =>
    have htick := (Claims.tickEvent s _ h).1 hrun
    have hsum : s.ticks + 1#32 + BitVec.ofNat 32 k = s.ticks + BitVec.ofNat 32 (k + 1) := by
      rw [BitVec.ofNat_add, BitVec.add_assoc, BitVec.add_comm 1#32]
    have hcount := ih (s := { s with inputs := List.replicate k .tick ++ rest, ticks := s.ticks + 1#32 }) hrun rfl
    rw [hsum] at hcount
    exact (run_of_step htick (n + k)).trans hcount

end Sys2Proof.Machine

namespace Sys2Proof.Claims

open Sys2Proof.Machine

/-- Settles O11: at both kinds of attempt the answer leads to the check, which answers 0. -/
theorem waitsGoOnBeforeTheDeadline : Obligations.WaitsGoOnBeforeTheDeadline :=
  ⟨fun _ _ _ hb hp ht ha he => engineMove_send_not_expired hb rfl hp ht ha he,
    fun _ _ _ hb hp ht ha he => engineMove_receive_not_expired hb rfl hp ht ha he⟩

/-- Settles O12: `PH_SEND` is one wait at a send attempt. -/
theorem sendData : Obligations.SendData := by
  refine ⟨fun s b timeout hb => exec_of_beginWait rfl hb rfl, fun s b timeout rest hb ht => ?_,
    fun s b a rest hb hpos ht => ⟨?_, fun ha he => ?_, fun ha he => ?_⟩⟩
  · exact exec_of_beginWait_finished rfl hb rfl
      (engineMove_send_ok (s := waiting timeout (.sendOne b) (issued (.phSend b timeout) s)) rfl rfl rfl ht)
  · rintro rfl
    exact engineMove_send_ok hb hpos rfl ht
  · exact engineMove_send_expired hb hpos rfl ht ha he
  · exact engineMove_send_not_expired hb hpos rfl ht ha he

/-- Settles O13: `PH_RECV` is one wait that accepts every byte. -/
theorem recvData : Obligations.RecvData := by
  refine ⟨fun s timeout hb => exec_of_beginWait rfl hb rfl, fun s b timeout rest hb ht => ?_,
    fun s a rest hb hpos ht => ⟨?_, fun ha he => ?_, fun ha he => ?_⟩⟩
  · exact exec_of_beginWait_finished rfl hb rfl
      (engineMove_receive_accepted (s := waiting timeout .recvOne (issued (.phRecv timeout) s)) rfl rfl rfl ht rfl)
  · rintro b rfl
    exact engineMove_receive_accepted hb hpos rfl ht rfl
  · have hm := engineMove_receive_expired hb hpos rfl ht (fun b h => absurd h (ha b)) he
    rwa [heard_of_ne_ok ha, List.append_nil] at hm
  · have hm := engineMove_receive_not_expired hb hpos rfl ht (fun b h => absurd h (ha b)) he
    rwa [heard_of_ne_ok ha, List.append_nil] at hm

/-- Settles O14: `PH_WAIT` is one wait that accepts the expected byte only. -/
theorem waitFor : Obligations.WaitFor := by
  refine ⟨fun s x timeout hb => exec_of_beginWait rfl hb rfl, fun s x timeout rest hb ht => ?_,
    fun s x a rest hb hpos ht => ⟨?_, fun ha he => ?_, fun ha he => ?_⟩⟩
  · exact exec_of_beginWait_finished rfl hb rfl
      (engineMove_receive_accepted (s := waiting timeout (.waitByte x) (issued (.phWait x timeout) s)) rfl rfl rfl ht
        (waitByte_accepts_iff.mpr rfl))
  · rintro rfl
    exact engineMove_receive_accepted hb hpos rfl ht (waitByte_accepts_iff.mpr rfl)
  · exact engineMove_receive_expired hb hpos rfl ht (waitByte_not_accepts ha) he
  · exact engineMove_receive_not_expired hb hpos rfl ht (waitByte_not_accepts ha) he

/-- Settles O15: `PH_WAITM` is one wait that accepts the bytes with every bit of the mask. -/
theorem waitForMasked : Obligations.WaitForMasked := by
  refine ⟨fun s mask timeout hb => exec_of_beginWait rfl hb rfl, fun s mask b timeout rest hb ht hmask => ?_,
    fun s mask a rest hb hpos ht => ⟨?_, fun ha he => ?_, fun ha he => ?_⟩⟩
  · exact exec_of_beginWait_finished rfl hb rfl
      (engineMove_receive_accepted (s := waiting timeout (.waitMask mask) (issued (.phWaitm mask timeout) s)) rfl rfl
        rfl ht (waitMask_accepts_iff.mpr hmask))
  · rintro b rfl hmask
    exact engineMove_receive_accepted hb hpos rfl ht (waitMask_accepts_iff.mpr hmask)
  · exact engineMove_receive_expired hb hpos rfl ht (waitMask_not_accepts ha) he
  · exact engineMove_receive_not_expired hb hpos rfl ht (waitMask_not_accepts ha) he

/-- `PH_RECV` issued to a silent transport, with a tick to come: its one attempt leaves the wait as it began. -/
theorem step_phRecv_silent {s : State} {timeout : Tick} {rest : List Input} (hb : s.engBusy = false)
    (ht : 0 < timeout.toNat) (h : s.inputs = .command (encode (.phRecv timeout)) :: .rx .busy :: .tick :: rest) :
    step s = .next (waiting timeout .recvOne (issued (.phRecv timeout) (s.setInputs (.tick :: rest)))) := by
  have htake : takeEvent s.inputs = some (.command (encode (.phRecv timeout)), .rx .busy :: .tick :: rest) := by
    rw [h]
    rfl
  have hissue : exec (.phRecv timeout) (s.setInputs (.rx .busy :: .tick :: rest)) = _ :=
    exec_of_beginWait rfl hb rfl
  have hmove := engineMove_waiting_silent (p := .recvOne) (rest := .tick :: rest)
    (s := issued (.phRecv timeout) (s.setInputs (.rx .busy :: .tick :: rest))) rfl rfl ht rfl
    (fun _ => RecvAnswer.noConfusion)
  rw [step_command_idle hb htake (decode_encode (i := .phRecv timeout) rfl), hissue, turn_of_engineMove hmove,
    turn_of_none (engineMove_tick rfl)]
  rfl

/-- An attempt of `PH_RECV` that finds no byte at the deadline is the machine's last step of the command. -/
theorem step_recvOne_expired {s : State} {a : RecvAnswer} {rest : List Input} (hb : s.engBusy = true)
    (hpos : s.pos = .recvOne) (ht : takeRx s.inputs = some (a, rest)) (ha : ∀ b, a ≠ .ok b) (he : expired s) :
    step s = .next (finished 2#4 (s.setInputs rest)) := by
  obtain ⟨-, -, hattempt⟩ := recvData
  obtain ⟨-, htimeout, -⟩ := hattempt s a rest hb hpos ht
  rw [stepIsTheEnginesTurn s _ (htimeout ha he), turn_idle rfl]
  rfl

/-- Settles O16: the attempt at the issue is before the first tick, the next one after the last. -/
theorem receiveTimesOutAfterItsTicks : Obligations.ReceiveTimesOutAfterItsTicks := by
  intro s timeout k rest hb hfin hpos hle hk hin
  obtain ⟨j, rfl⟩ : ∃ j, k = j + 1 := ⟨k - 1, by omega⟩
  have hissue := step_phRecv_silent hb hpos hin
  have hticks := run_ticks (k := j + 1) rfl rfl 1
    (s := waiting timeout .recvOne (issued (.phRecv timeout)
      (s.setInputs (List.replicate (j + 1) .tick ++ .rx .busy :: rest))))
  have hgone : timeout.toNat ≤ (0#32 + BitVec.ofNat 32 (j + 1) - 0#32).toNat := by rwa [toNat_ticks_since 0#32 hk]
  have hlast := step_recvOne_expired (rest := rest) rfl rfl rfl (fun _ => RecvAnswer.noConfusion) ⟨hfin, hgone⟩
    (s := { waiting timeout .recvOne (issued (.phRecv timeout) s) with
      inputs := .rx .busy :: rest, ticks := 0#32 + BitVec.ofNat 32 (j + 1) })
  have hrun := (run_of_step hissue (1 + (j + 1))).trans (hticks.trans (run_of_step hlast 0))
  rw [show j + 1 + 2 = 1 + (j + 1) + 1 by omega]
  exact ⟨_, hrun, rfl, rfl, rfl, rfl, rfl, rfl, rfl, rfl, BitVec.zero_add _⟩

end Sys2Proof.Claims
end

section
/-! SUPPORT. The services of the physical layer from their issue (R150 to R161): the state check, where a procedure goes
that passes it, what goes back to a host that called it; and the two buffer accesses. -/

namespace Sys2Proof.Machine

open Sys2Proof.Claims

/-! ### From the issue to the turn (R29) -/

/-- A host command's meaning with the engine idle. -/
theorem exec_command_idle {i : Instr} {s : State} (hi : i.slot = .command) (hb : s.engBusy = false) :
    exec i s = .next (turn (procedureOf i (s.latch i))) := (exec_command hi s).trans (issue_idle hb)

/-- A host command that completes in the turn of its issue. -/
theorem exec_of_turn {i : Instr} {s u : State} {c : BitVec 4} (hi : i.slot = .command) (hb : s.engBusy = false)
    (h : turn (procedureOf i (s.latch i)) = finished c u) : exec i s = .next (finished c u) :=
  (exec_command_idle hi hb).trans (congrArg Host.Outcome.next h)

/-- The same of a command that begins with a wait. -/
theorem exec_of_beginWait_turn {i : Instr} {s u : State} {t : Tick} {p : Pos} {c : BitVec 4} (hi : i.slot = .command)
    (hb : s.engBusy = false) (hp : procedureOf i (s.latch i) = (s.latch i).beginWait t p)
    (h : turn (waiting t p (issued i s)) = finished c u) :
    exec i s = .next (finished c u) :=
  (exec_of_beginWait hi hb hp).trans (congrArg Host.Outcome.next h)

/-- A turn whose one engine step completes the command. -/
theorem turn_of_finished {s u : State} {c : BitVec 4} (h : engineMove s = some (finished c u)) :
    turn s = finished c u := (turn_of_engineMove h).trans (turn_idle rfl)

/-! ### What goes back to the host, and not to a command of the data link -/

theorem returnPhInit_host {s : State} (h : s.latched ≠ some .dlInit) (k : Nat) (e : ErrCode) :
    returnPhInit k e s = s.complete e := by
  unfold returnPhInit
  split
  next hd => exact absurd hd h
  next => rfl

theorem returnPhReset_host {s : State} (h : s.latched ≠ some .dlInit) (k : Nat) (e : ErrCode) :
    returnPhReset k e s = s.complete e := by
  unfold returnPhReset
  split
  next hd => exact absurd hd h
  next => rfl

theorem returnPhAck_host {s : State} {c : BitVec 2} (h : s.latched = some (.phAck c)) (kind : AckKind) (e : ErrCode) :
    returnPhAck kind e s = s.complete e := by simp only [returnPhAck, h]

theorem returnDataRequest_host {s : State} {n : BitVec 6} {t : Tick} (h : s.latched = some (.phDatareq n t))
    (e : ErrCode) : returnDataRequest e s = s.complete e := by simp only [returnDataRequest, h]

/-- R157: the number of stored bytes goes to `rx_len` and to `RES_LEN`. -/
theorem endDataReceive_host {s : State} (h : s.latched = some .phDatarcv) (n : Nat) :
    endDataReceive n s =
      ({ s with rxLen := BitVec.ofNat 6 n, resLen := BitVec.ofNat 6 n } : State).complete
        (if n = 0 then .timeout else .none) := by
  simp only [endDataReceive, returnDataReceive, h]
  split <;> rfl

/-! ### The codes of requests and acknowledgements (R73, R74, R82) -/

theorem Req.wire_ofCode_invalid : ∀ req : BitVec 4, 8 ≤ req.toNat → (Req.ofCode req).wire = Option.none := by decide

theorem Req.ofCode_ne_reset : ∀ req : BitVec 4, 0 < req.toNat → Req.ofCode req ≠ .reset := by decide

theorem Req.ofCode_ne_stateQuery : ∀ req : BitVec 4, 2 ≤ req.toNat → Req.ofCode req ≠ .stateQuery := by decide

theorem Req.wire_ofCode : ∀ req : BitVec 4, req.toNat < 8 →
    (Req.ofCode req).wire = some (requestByte req) := by decide

theorem AckKind.ofCode_of_ne_three : ∀ kind : BitVec 2, kind ≠ 3#2 →
    AckKind.ofCode kind = some (if kind = 0#2 then .ack else if kind = 1#2 then .busy else .nack) := by decide

theorem AckKind.byte_eq (k : AckKind) : k.byte = ackByte k := by cases k <;> rfl

/-! ### Past the issue, by the device state (R150) -/

section Unchecked

variable {s : State} (h : s.phState = .uninitialized)
include h

theorem State.uninitialized_of_phState : s.uninitialized = true := beq_iff_eq.mpr h

theorem enterStateQuery_unchecked : enterStateQuery s = s.complete .state := if_pos (State.uninitialized_of_phState h)

theorem enterPhAck_unchecked (kind : AckKind) : enterPhAck kind s = returnPhAck kind .state s :=
  if_pos (State.uninitialized_of_phState h)

theorem enterDataRequest_unchecked (n : BitVec 6) (t : Tick) : enterDataRequest n t s = returnDataRequest .state s :=
  if_pos (State.uninitialized_of_phState h)

theorem enterDataReceive_unchecked : enterDataReceive s = returnDataReceive .state s :=
  if_pos (State.uninitialized_of_phState h)

/-- `Reset` alone of the valid requests makes no state check. -/
theorem enterPhRequest_unchecked {r : Req} {w : Byte} (hw : r.wire = some w) (hr : r ≠ .reset) :
    enterPhRequest r s = s.complete .state := by
  cases r
  case reset => exact absurd rfl hr
  case stateQuery => exact enterStateQuery_unchecked h
  case none => cases hw
  all_goals exact if_pos (State.uninitialized_of_phState h)

end Unchecked

section Checked

variable {s : State} (h : s.phState ≠ .uninitialized)
include h

theorem enterStateQuery_checked : enterStateQuery s = s.beginWait Config.tSvc .querySend :=
  if_neg (State.not_uninitialized_iff.mpr h)

theorem enterPhAck_checked (kind : AckKind) : enterPhAck kind s = s.beginWait Config.tAck (.ackSend kind) :=
  if_neg (State.not_uninitialized_iff.mpr h)

theorem enterDataReceive_checked : enterDataReceive s = s.beginWait Config.tRxByte (.dataRecv 0) :=
  if_neg (State.not_uninitialized_iff.mpr h)

theorem enterDataRequest_checked {n : BitVec 6} (h2 : 2 ≤ n.toNat) (h22 : n.toNat ≤ 22) (t : Tick) :
    enterDataRequest n t s = s.beginWait t (.dataMark n.toNat t 0) := by
  have hn : lengthInRange n = true := lengthInRange_iff.mpr ⟨h2, h22⟩
  rw [enterDataRequest, if_neg (State.not_uninitialized_iff.mpr h), hn]
  rfl

theorem enterDataRequest_out_of_range {n : BitVec 6} (hout : n.toNat < 2 ∨ 22 < n.toNat) (t : Tick) :
    enterDataRequest n t s = returnDataRequest .request s := by
  have hn : lengthInRange n = false := decide_eq_false fun ⟨h2, h22⟩ => by
    rcases hout with hlt | hgt
    · exact absurd h2 (Nat.not_le.mpr hlt)
    · exact absurd h22 (Nat.not_le.mpr hgt)
  rw [enterDataRequest, if_neg (State.not_uninitialized_iff.mpr h), hn]
  rfl

/-- R154: a request with no procedure of its own is one byte to send. -/
theorem enterPhRequest_checked {r : Req} {w : Byte} (hw : r.wire = some w) (hr : r ≠ .reset) (hq : r ≠ .stateQuery) :
    enterPhRequest r s = s.beginWait Config.tSvc (.reqSend r w) := by
  cases r
  case reset => exact absurd rfl hr
  case stateQuery => exact absurd rfl hq
  case none => cases hw
  all_goals
    cases hw
    exact if_neg (State.not_uninitialized_iff.mpr h)

end Checked

/-- R154: a request without a wire byte is refused in every device state. -/
theorem enterPhRequest_invalid {r : Req} (hw : r.wire = none) (s : State) :
    enterPhRequest r s = s.complete .request := by
  cases r
  case none => rfl
  all_goals cases hw

theorem procedureOf_phAck {c : BitVec 2} {kind : AckKind} (h : AckKind.ofCode c = some kind) (s : State) :
    procedureOf (.phAck c) s = enterPhAck kind s := by
  show (match AckKind.ofCode c with
    | none => s.complete .request
    | some k => enterPhAck k s) = _
  rw [h]

end Sys2Proof.Machine

namespace Sys2Proof.Claims

open Sys2Proof.Machine

/-- `PH_REQ` 1 to 7 makes the state check (R150, R154). -/
theorem phReq_unchecked {s : State} {req : BitVec 4} (hb : s.engBusy = false) (h0 : 0 < req.toNat)
    (h8 : req.toNat < 8) (h : s.phState = .uninitialized) : exec (.phReq req) s = .next (finished 6#4 s) :=
  have hstate := enterPhRequest_unchecked (s := s.latch (.phReq req)) h (Req.wire_ofCode req h8)
    (Req.ofCode_ne_reset req h0)
  exec_of_finished rfl hb hstate

/-- `PH_ACK` 0 to 2 makes the state check (R150, R155). -/
theorem phAck_unchecked {s : State} {kind : BitVec 2} (hb : s.engBusy = false) (hk : kind ≠ 3#2)
    (h : s.phState = .uninitialized) : exec (.phAck kind) s = .next (finished 6#4 s) :=
  exec_of_finished rfl hb ((procedureOf_phAck (AckKind.ofCode_of_ne_three kind hk) _).trans
    (enterPhAck_unchecked (s := s.latch _) h _))

/-- Settles O17: each of the five procedures begins with the check, and its caller is the host. -/
theorem stateCheck : Obligations.StateCheck := fun s hb h =>
  ⟨exec_of_finished rfl hb (enterStateQuery_unchecked (s := s.latch _) h),
    fun _ h0 h8 => phReq_unchecked hb h0 h8 h,
    fun _ hk => phAck_unchecked hb hk h,
    fun n t => exec_of_finished rfl hb (enterDataRequest_unchecked (s := s.latch _) h n t),
    exec_of_finished rfl hb (enterDataReceive_unchecked (s := s.latch _) h)⟩

/-- Settles O54: an engine step's writes of `ph_state`, by the position it is made at. -/
theorem deviceStateMachine : Obligations.DeviceStateMachine :=
  fun _ _ hm hne => (engineMove_device hm).phState.resolve_left hne

/-- Settles O27: an index in range is one write into `TXBUF`, any other one is `Request`. -/
theorem txbufWrite : Obligations.TxbufWrite := by
  refine fun s idx b hb => ⟨fun hlt hwf => ⟨finished 0#4 (s.writeTx idx.toNat b), ?_, rfl,
    Memory.read_write_same hwf _ _, fun i hi => Memory.read_write_other hwf _ hi⟩, fun hge => ?_⟩
  · exact exec_of_finished rfl hb (if_pos (decide_eq_true hlt))
  · exact exec_of_finished rfl hb (if_neg (mt of_decide_eq_true (Nat.not_lt.mpr hge)))

/-- Settles O28: an index in range is one read of `RXBUF`, any other one is `Request`. -/
theorem rxbufRead : Obligations.RxbufRead := fun _ _ hb =>
  ⟨fun hlt => exec_of_finished rfl hb (if_pos (decide_eq_true hlt)),
    fun hge => exec_of_finished rfl hb (if_neg (mt of_decide_eq_true (Nat.not_lt.mpr hge)))⟩

end Sys2Proof.Claims
end

section
/-! SUPPORT. The services of at most one exchange (R151 to R155): initialisation, reset, state query, the other requests
and the acknowledgements. -/

namespace Sys2Proof.Machine

open Sys2Proof.Claims

/-! ### `Transport.init()` and its answer (R151) -/

section Init

variable {s : State} {rest : List Input} (hb : s.engBusy = true) (hl : s.latched = some .phInit) {k : Nat}
  (hpos : s.pos = .transportInit k)
include hb hl hpos

theorem engineMove_init_ok (ht : takeInit s.inputs = some (.ok, rest)) :
    engineMove s = some (finished 0#4 { s with inputs := rest, phState := .reset }) := by
  rw [engineMove_init hb (hpos ▸ rfl) ht]
  simp only [initStep, State.setInputs_pos, hpos]
  rw [returnPhInit_host (by simp [hl])]
  rfl

theorem engineMove_init_error (ht : takeInit s.inputs = some (.error, rest)) :
    engineMove s = some (finished 1#4 { s with inputs := rest }) := by
  rw [engineMove_init hb (hpos ▸ rfl) ht]
  simp only [initStep, State.setInputs_pos, hpos]
  rw [returnPhInit_host (by simp [hl])]
  rfl

end Init

/-! ### A byte sent and its reply awaited (R152, R153) -/

section Exchange

variable {s : State} {r1 r2 : List Input} (hb : s.engBusy = true) (htx : takeTx s.inputs = some (.ok, r1))
include hb htx

/-- `ph_reset`, called by the host, with both answers at hand. -/
theorem turn_resetSend (hl : s.latched ≠ some .dlInit) (hpos : s.pos = .resetSend 0)
    (hrx : takeRx r1 = some (.ok 0x03#8, r2)) :
    turn s = finished 0#4 (waiting Config.tSvc .idle
      { s with inputs := r2, txs := s.txs ++ [0x01#8], rxs := s.rxs ++ [0x03#8], phState := .normal }) := by
  have hsend : engineMove s = some (waiting Config.tSvc (.resetWait 0)
      { s with inputs := r1, txs := s.txs ++ [0x01#8] }) := engineMove_send_ok hb hpos rfl htx
  have hwait := engineMove_receive_accepted hb rfl rfl hrx rfl
    (s := waiting Config.tSvc (.resetWait 0) { s with inputs := r1, txs := s.txs ++ [0x01#8] })
  have hend := returnPhReset_host hl 0 .none (s := waiting Config.tSvc (.resetWait 0)
    { s with inputs := r2, txs := s.txs ++ [0x01#8], rxs := s.rxs ++ [0x03#8], phState := .normal })
  rw [turn_of_engineMove hsend]
  exact turn_of_finished (hwait.trans (congrArg some hend))

/-- `state_query` with both answers at hand. -/
theorem turn_querySend {b : Byte} (hpos : s.pos = .querySend) (hrx : takeRx r1 = some (.ok b, r2))
    (hmask : b &&& 0x07#8 = 0x07#8) :
    turn s = finished 0#4 (waiting Config.tSvc .idle
      { s with inputs := r2, txs := s.txs ++ [0x02#8], rxs := s.rxs ++ [b], resByte := b }) := by
  have hsend : engineMove s = some (waiting Config.tSvc .queryWait
      { s with inputs := r1, txs := s.txs ++ [0x02#8] }) := engineMove_send_ok hb hpos rfl htx
  have hwait := engineMove_receive_accepted hb rfl rfl hrx (waitMask_accepts_iff.mpr hmask)
    (s := waiting Config.tSvc .queryWait { s with inputs := r1, txs := s.txs ++ [0x02#8] })
  rw [turn_of_engineMove hsend]
  exact turn_of_finished hwait

end Exchange

/-! ### The effect of a sent request (R154) -/

theorem requestEffect_eq (r : Req) (s : State) : requestEffect r s =
    { s with phState := if r = .activateBusMonitor then .monitor else s.phState
             busy := if r = .activateBusyMode then true else if r = .deactivateBusyMode then false else s.busy } := by
  cases r <;> rfl

theorem Req.ofCode_eq_activateBusMonitor : ∀ req : BitVec 4, Req.ofCode req = .activateBusMonitor ↔ req = 2#4 := by
  decide

theorem Req.ofCode_eq_activateBusyMode : ∀ req : BitVec 4, Req.ofCode req = .activateBusyMode ↔ req = 4#4 := by
  decide

theorem Req.ofCode_eq_deactivateBusyMode : ∀ req : BitVec 4, Req.ofCode req = .deactivateBusyMode ↔ req = 5#4 := by
  decide

theorem requestEffect_ofCode (req : BitVec 4) (s : State) : requestEffect (Req.ofCode req) s =
    { s with phState := if req = 2#4 then .monitor else s.phState
             busy := if req = 4#4 then true else if req = 5#4 then false else s.busy } := by
  simp only [requestEffect_eq, Req.ofCode_eq_activateBusMonitor, Req.ofCode_eq_activateBusyMode,
    Req.ofCode_eq_deactivateBusyMode]

/-- The byte of a request taken, its effect happens and nothing is awaited. -/
theorem engineMove_reqSend_ok {s : State} {req : BitVec 4} {w : Byte} {rest : List Input} (hb : s.engBusy = true)
    (hpos : s.pos = .reqSend (Req.ofCode req) w) (ht : takeTx s.inputs = some (.ok, rest)) :
    engineMove s = some (finished 0#4
      { s with inputs := rest, txs := s.txs ++ [w]
               phState := if req = 2#4 then .monitor else s.phState
               busy := if req = 4#4 then true else if req = 5#4 then false else s.busy }) :=
  (engineMove_send_ok hb hpos rfl ht).trans
    (congrArg (fun t : State => some (t.complete .none)) (requestEffect_ofCode req _))

/-! ### The byte of an acknowledgement (R155) -/

theorem ackByte_of_code (c : BitVec 2) :
    ackByte (if c = 0#2 then .ack else if c = 1#2 then .busy else .nack) =
      if c = 0#2 then 0x11#8 else if c = 1#2 then 0x12#8 else 0x14#8 := by
  split
  · rfl
  · split <;> rfl

theorem engineMove_ackSend_ok {s : State} {c : BitVec 2} {kind : AckKind} {rest : List Input} (hb : s.engBusy = true)
    (hl : s.latched = some (.phAck c)) (hpos : s.pos = .ackSend kind) (ht : takeTx s.inputs = some (.ok, rest)) :
    engineMove s = some (finished 0#4 { s with inputs := rest, txs := s.txs ++ [ackByte kind] }) := by
  rw [engineMove_send_ok hb hpos rfl ht, AckKind.byte_eq]
  exact congrArg some (returnPhAck_host (s := { s with inputs := rest, txs := s.txs ++ [ackByte kind] }) hl kind .none)

end Sys2Proof.Machine

namespace Sys2Proof.Claims

open Sys2Proof.Machine

/-- Settles O18: the issue runs to `Transport.init()`, whose answer completes the command. -/
theorem physicalInit : Obligations.PhysicalInit := by
  refine ⟨fun s hb => exec_command_idle rfl hb, fun s a rest hb ht => ⟨?_, ?_⟩,
    fun s a rest hb hl hpos ht => ⟨?_, ?_⟩⟩ <;> rintro rfl
  · exact exec_of_turn rfl hb
      (turn_of_finished (engineMove_init_ok (s := enterPhInit 0 (s.latch .phInit)) rfl rfl rfl ht))
  · exact exec_of_turn rfl hb
      (turn_of_finished (engineMove_init_error (s := enterPhInit 0 (s.latch .phInit)) rfl rfl rfl ht))
  · exact engineMove_init_ok hb hl hpos ht
  · exact engineMove_init_error hb hl hpos ht

/-- Settles O19: a send and a wait, and both failures go back to the host. -/
theorem physicalReset : Obligations.PhysicalReset := by
  refine ⟨fun s hb => exec_command_idle rfl hb, fun s r1 r2 hb htx hrx => ?_,
    fun s a rest hb hl hpos ht => ⟨?_, fun ha he => ?_⟩, fun s a rest hb hl hpos ht => ⟨?_, fun ha he => ?_⟩⟩
  · exact exec_of_turn rfl hb
      (turn_resetSend (s := enterPhReset 0 (s.latch .phReset)) rfl htx nofun rfl hrx)
  · rintro rfl
    exact engineMove_send_ok hb hpos rfl ht
  · rw [engineMove_send_expired hb hpos rfl ht ha he]
    exact congrArg some (returnPhReset_host (s := { s with inputs := rest }) hl 0 .request)
  · rintro rfl
    rw [engineMove_receive_accepted hb hpos rfl ht rfl]
    exact congrArg some (returnPhReset_host
      (s := { s with inputs := rest, rxs := s.rxs ++ [0x03#8], phState := .normal }) hl 0 .none)
  · rw [engineMove_receive_expired hb hpos rfl ht (waitByte_not_accepts ha) he]
    exact congrArg some (returnPhReset_host (s := { s with inputs := rest, rxs := s.rxs ++ heard a }) hl 0 .timeout)

/-- Settles O20: the check, then a send and a masked wait. -/
theorem stateQuery : Obligations.StateQuery := by
  have hbegin {s : State} (hu : s.phState ≠ .uninitialized) := enterStateQuery_checked (s := s.latch .phStateq) hu
  refine ⟨fun s hb hu => exec_of_finished rfl hb (enterStateQuery_unchecked (s := s.latch .phStateq) hu),
    fun s hb hu => exec_of_beginWait rfl hb (hbegin hu), fun s b r1 r2 hb hu htx hrx hmask => ?_,
    fun s a rest hb hpos ht => ⟨?_, fun ha he => ?_⟩, fun s a rest hb hpos ht => ⟨?_, fun ha he => ?_⟩⟩
  · exact exec_of_beginWait_turn rfl hb (hbegin hu)
      (turn_querySend (s := waiting Config.tSvc .querySend (issued .phStateq s)) rfl htx rfl hrx hmask)
  · rintro rfl
    exact engineMove_send_ok hb hpos rfl ht
  · exact engineMove_send_expired hb hpos rfl ht ha he
  · rintro b rfl hmask
    exact engineMove_receive_accepted hb hpos rfl ht (waitMask_accepts_iff.mpr hmask)
  · exact engineMove_receive_expired hb hpos rfl ht (waitMask_not_accepts ha) he

/-- Settles O21: the ranges of the code, then the two requests with procedures of their own, then the one byte. -/
theorem serviceRequests : Obligations.ServiceRequests := by
  have hquery {s : State} (hu : s.phState ≠ .uninitialized) := enterStateQuery_checked (s := s.latch (.phReq 1#4)) hu
  have hsend {s : State} {req : BitVec 4} (hu : s.phState ≠ .uninitialized) (h2 : 2 ≤ req.toNat)
      (h8 : req.toNat < 8) :=
    enterPhRequest_checked (s := s.latch (.phReq req)) hu (Req.wire_ofCode req h8)
      (Req.ofCode_ne_reset req (by omega)) (Req.ofCode_ne_stateQuery req h2)
  refine ⟨fun s req hb h8 => exec_of_finished rfl hb (enterPhRequest_invalid (Req.wire_ofCode_invalid req h8) _),
    fun s req hb h0 h8 hu => phReq_unchecked hb h0 h8 hu,
    fun s hb => exec_command_idle rfl hb,
    fun s hb hu => exec_of_beginWait rfl hb (hquery hu),
    fun s r1 r2 hb htx hrx => ?_, fun s b r1 r2 hb hu htx hrx hmask => ?_,
    fun s req hb hu h2 h8 => exec_of_beginWait rfl hb (hsend hu h2 h8),
    fun s req rest hb hu h2 h8 ht => ?_, fun s req w a rest hb hpos ht => ⟨?_, fun ha he => ?_⟩⟩
  · exact exec_of_turn rfl hb
      (turn_resetSend (s := enterPhReset 0 (s.latch (.phReq 0#4))) rfl htx nofun rfl hrx)
  · exact exec_of_beginWait_turn rfl hb (hquery hu)
      (turn_querySend (s := waiting Config.tSvc .querySend (issued (.phReq 1#4) s)) rfl htx rfl hrx hmask)
  · exact exec_of_beginWait_finished (i := .phReq req) rfl hb (hsend hu h2 h8) (engineMove_reqSend_ok
      (s := waiting Config.tSvc (.reqSend (Req.ofCode req) (requestByte req)) (issued (.phReq req) s)) rfl rfl ht)
  · rintro rfl
    exact engineMove_reqSend_ok hb hpos ht
  · exact engineMove_send_expired hb hpos rfl ht ha he

/-- Settles O22: the illegal kind, the check, then the one byte. -/
theorem acknowledgements : Obligations.Acknowledgements := by
  have hbegin {s : State} {kind : BitVec 2} (hk : kind ≠ 3#2) (hu : s.phState ≠ .uninitialized) :=
    (procedureOf_phAck (AckKind.ofCode_of_ne_three kind hk) (s.latch (.phAck kind))).trans
      (enterPhAck_checked (s := s.latch (.phAck kind)) hu _)
  refine ⟨fun s hb => exec_of_finished rfl hb rfl, fun s kind hb hk hu => phAck_unchecked hb hk hu,
    fun s kind hb hk hu => exec_of_beginWait rfl hb (hbegin hk hu), fun s kind rest hb hk hu ht => ?_,
    fun s kind k a rest hb hl hpos ht => ⟨?_, fun ha he => ?_⟩⟩
  · rw [← ackByte_of_code]
    exact exec_of_beginWait_finished rfl hb (hbegin hk hu)
      (engineMove_ackSend_ok (s := waiting Config.tAck (.ackSend _) (issued (.phAck kind) s)) rfl rfl rfl ht)
  · rintro rfl
    exact engineMove_ackSend_ok hb hl hpos ht
  · rw [engineMove_send_expired hb hpos rfl ht ha he]
    exact congrArg some (returnPhAck_host (s := { s with inputs := rest }) hl k .request)

end Sys2Proof.Claims
end

section
/-! SUPPORT. The segmented send (R81, R156): one marker and one frame byte at a time, then the confirm. -/

namespace Sys2Proof.Machine

open Sys2Proof.Claims

/-! ### Markers and segments (R81) -/

/-- The marker in the words of the statements. -/
theorem dataMarker_eq {n i : Nat} (hn : n ≤ 22) (hi : i < n) :
    dataMarker n i = if i = 0 then 0x80#8 else if i + 1 = n then 0x80#8 ||| BitVec.ofNat 8 n
      else 0x80#8 ||| BitVec.ofNat 8 i := by
  have hwiden {k : Nat} (hk : k ≤ 22) : (BitVec.ofNat 6 k).setWidth 8 = BitVec.ofNat 8 k :=
    BitVec.setWidth_ofNat_of_le_of_lt (by decide) (by omega)
  rw [dataMarker, dataEndByte, dataContinueByte, hwiden hn, hwiden (by omega)]
  rfl

/-- What the two sends at index `i` of `data_request` put on the wire. -/
def segment (m : Memory) (n i : Nat) : List Byte := [dataMarker n i, m.read i]

theorem segments_first (m : Memory) {n : Nat} (hn : n ≤ 22) :
    segments ((List.range n).map m.read) = (List.range n).flatMap (segment m n) := by
  rw [segments, List.length_map, List.length_range]
  refine List.flatMap_congr fun i hi => ?_
  have hin := List.mem_range.mp hi
  rw [segment, dataMarker_eq hn hin]
  simp [List.getD, hin]

/-! ### One attempt -/

section Attempt

variable {s : State} {n i : Nat} {t : Tick} {rest : List Input} (hb : s.engBusy = true)
include hb

theorem engineMove_dataMark_ok (hpos : s.pos = .dataMark n t i) (ht : takeTx s.inputs = some (.ok, rest)) :
    engineMove s = some (waiting t (.dataByte n t i) { s with inputs := rest, txs := s.txs ++ [dataMarker n i] }) :=
  engineMove_send_ok hb hpos rfl ht

theorem engineMove_dataByte_ok (hpos : s.pos = .dataByte n t i) (ht : takeTx s.inputs = some (.ok, rest)) :
    engineMove s = some (waiting t (if i + 1 < n then .dataMark n t (i + 1) else .dataConfirm)
      { s with inputs := rest, txs := s.txs ++ [s.txBuf.read i] }) := by
  refine (engineMove_send_ok hb hpos rfl ht).trans (congrArg some ?_)
  simp only [afterSend, if_true]
  split <;> rfl

/-- A byte the confirm wait accepts gives the code of its class. -/
theorem engineMove_dataConfirm_ok {l : BitVec 6} {b : Byte} (hl : s.latched = some (.phDatareq l t))
    (hpos : s.pos = .dataConfirm) (ht : takeRx s.inputs = some (.ok b, rest)) (hmask : b &&& 0x0B#8 = 0x0B#8) :
    engineMove s = some (finished (confirmCode b) { s with inputs := rest, rxs := s.rxs ++ [b] }) := by
  have hcode : (classifyConfirm b).code = confirmCode b := by
    unfold classifyConfirm confirmCode
    split
    · rfl
    · split <;> rfl
  rw [engineMove_receive_accepted hb hpos rfl ht (waitMask_accepts_iff.mpr hmask), ← hcode]
  exact congrArg some (returnDataRequest_host (s := { s with inputs := rest, rxs := s.rxs ++ [b] }) hl _)

/-! ### Sends taken at once, in one turn (log 4) -/

/-- Marker and byte of index `i`. -/
theorem turn_segment (hpos : s.pos = .dataMark n t i) (hin : s.inputs = .tx .ok :: .tx .ok :: rest) :
    turn s = turn (waiting t (if i + 1 < n then .dataMark n t (i + 1) else .dataConfirm)
      { s with inputs := rest, txs := s.txs ++ segment s.txBuf n i }) := by
  have hmark := engineMove_dataMark_ok hb hpos (congrArg takeTx hin)
  have hbyte := engineMove_dataByte_ok hb rfl rfl
    (s := waiting t (.dataByte n t i) { s with inputs := .tx .ok :: rest, txs := s.txs ++ [dataMarker n i] })
  rw [turn_of_engineMove hmark, turn_of_engineMove hbyte]
  simp only [waiting, segment, List.append_assoc, List.singleton_append]

/-- The last `m` of `n` segments, up to the confirm wait. -/
theorem turn_segments {m : Nat} (hm : i + m = n) (hpos : s.pos = .dataMark n t i) (hpositive : 0 < m)
    (hin : s.inputs = List.replicate (2 * m) (.tx .ok) ++ rest) :
    turn s = turn (waiting t .dataConfirm
      { s with inputs := rest, txs := s.txs ++ (List.range' i m).flatMap (segment s.txBuf n) }) := by
  induction m generalizing s i with
  | zero => exact absurd hpositive (Nat.lt_irrefl 0)
  | succ m ih =>
    rw [turn_segment (rest := List.replicate (2 * m) (Input.tx .ok) ++ rest) hb hpos hin]
    cases m with
    | zero =>
      rw [if_neg (by omega)]
      simp
    | succ m =>
      have hrest := ih (i := i + 1) (s := waiting t (.dataMark n t (i + 1))
        { s with inputs := List.replicate (2 * (m + 1)) (.tx .ok) ++ rest, txs := s.txs ++ segment s.txBuf n i })
        hb (by omega) rfl (Nat.succ_pos m) rfl
      rw [if_pos (by omega), hrest]
      simp [waiting, List.range'_succ]

end Attempt

end Sys2Proof.Machine

namespace Sys2Proof.Claims

open Sys2Proof.Machine

/-- Settles O24: the tests in order, then each attempt by its answer. -/
theorem dataRequest : Obligations.DataRequest := by
  refine ⟨fun s n t hb => ⟨fun hu => ?_, fun hu hout => ?_, fun hu h2 h22 => ?_⟩,
    fun s n i t rest hb hn hi ht => ⟨fun hpos => ?_, fun hpos => engineMove_dataByte_ok hb hpos ht⟩,
    fun s n i l t a rest hb hl hpos ht ha he => ?_,
    fun s l t a rest hb hl hpos ht => ⟨?_, fun ha he => ?_⟩⟩
  · exact exec_of_finished rfl hb (enterDataRequest_unchecked (s := s.latch (.phDatareq n t)) hu n t)
  · exact exec_of_finished rfl hb (enterDataRequest_out_of_range (s := s.latch (.phDatareq n t)) hu hout t)
  · exact exec_of_beginWait rfl hb (enterDataRequest_checked (s := s.latch (.phDatareq n t)) hu h2 h22 t)
  · rw [← dataMarker_eq hn hi]
    exact engineMove_dataMark_ok hb hpos ht
  · have habort := returnDataRequest_host (s := { s with inputs := rest }) hl .request
    rcases hpos with hpos | hpos <;>
      exact (engineMove_send_expired hb hpos rfl ht ha he).trans (congrArg some habort)
  · rintro b rfl hmask
    exact engineMove_dataConfirm_ok hb hl hpos ht hmask
  · rw [engineMove_receive_expired hb hpos rfl ht (waitMask_not_accepts ha) he]
    exact congrArg some (returnDataRequest_host (s := { s with inputs := rest, rxs := s.rxs ++ heard a }) hl .timeout)

/-- Settles O23: the `n` segments from the first, then the confirm. -/
theorem dataRequestSendsTheSegments : Obligations.DataRequestSendsTheSegments := by
  intro s n t b rest hb hu h2 h22 hmask hin
  refine exec_of_beginWait_turn rfl hb (enterDataRequest_checked (s := s.latch (.phDatareq n t)) hu h2 h22 t) ?_
  rw [turn_segments (s := waiting t (.dataMark n.toNat t 0) (issued (.phDatareq n t) s)) rfl (Nat.zero_add _) rfl
    (by omega) hin, segments_first _ h22, List.range_eq_range']
  exact turn_of_finished (engineMove_dataConfirm_ok (l := n) (t := t) rfl rfl rfl rfl hmask)

end Sys2Proof.Claims
end

section
/-! SUPPORT. The receiving loop (R157): each byte goes to the next place of `RXBUF`, until the buffer is full or a byte
does not come in time. -/

namespace Sys2Proof.Machine

open Sys2Proof.Claims

section Attempt

variable {s : State} {n : Nat} {b : Byte} {rest : List Input} (hb : s.engBusy = true) (hpos : s.pos = .dataRecv n)
  (ht : takeRx s.inputs = some (.ok b, rest))
include hb hpos ht

theorem engineMove_dataRecv_next (hn : n + 1 < 22) :
    engineMove s = some (waiting Config.tRxByte (.dataRecv (n + 1))
      { s with inputs := rest, rxs := s.rxs ++ [b], rxBuf := s.rxBuf.write n b }) :=
  (engineMove_receive_accepted hb hpos rfl ht rfl).trans (congrArg some (if_pos hn))

/-- The byte that fills the buffer ends the command. -/
theorem engineMove_dataRecv_last (hl : s.latched = some .phDatarcv) (hn : n = 21) :
    engineMove s = some (finished 0#4
      { s with inputs := rest, rxs := s.rxs ++ [b], rxBuf := s.rxBuf.write n b, rxLen := 22#6, resLen := 22#6 }) := by
  subst hn
  rw [engineMove_receive_accepted hb hpos rfl ht rfl]
  exact congrArg some (endDataReceive_host
    (s := { s with inputs := rest, rxs := s.rxs ++ [b], rxBuf := s.rxBuf.write 21 b }) hl 22)

end Attempt

/-- Bytes at hand from place `n` to the end of the buffer: all are stored in one turn (log 4), those before stay. -/
theorem turn_dataRecv {bytes : List Byte} {s : State} {n : Nat} {rest : List Input} (hne : bytes ≠ [])
    (hn : n + bytes.length = 22) (hb : s.engBusy = true) (hl : s.latched = some .phDatarcv) (hwf : s.rxBuf.wf)
    (hin : s.inputs = bytes.map (fun b => .rx (.ok b)) ++ rest) :
    ∃ m : Memory, turn (waiting Config.tRxByte (.dataRecv n) s) = finished 0#4 (waiting Config.tRxByte .idle
        { s with inputs := rest, rxs := s.rxs ++ bytes, rxBuf := m, rxLen := 22#6, resLen := 22#6 }) ∧
      (∀ i, i < bytes.length → m.read (n + i) = bytes.getD i 0#8) ∧ ∀ i, i < n → m.read i = s.rxBuf.read i := by
  induction bytes generalizing s n with
  | nil => exact absurd rfl hne
  | cons b l ih =>
    have hold (i : Nat) (hi : i < n) : (s.rxBuf.write n b).read i = s.rxBuf.read i :=
      Memory.read_write_other hwf b (Nat.ne_of_lt hi)
    cases l with
    | nil =>
      refine ⟨s.rxBuf.write n b, turn_of_finished (engineMove_dataRecv_last
        (s := waiting Config.tRxByte (.dataRecv n) s) hb rfl (congrArg takeRx hin) hl (Nat.succ.inj hn)), ?_, hold⟩
      intro i hi
      obtain rfl : i = 0 := Nat.lt_one_iff.mp hi
      exact Memory.read_write_same hwf n b
    | cons c l =>
      have hstep := engineMove_dataRecv_next (s := waiting Config.tRxByte (.dataRecv n) s) hb rfl (congrArg takeRx hin)
        (by simp at hn; omega)
      obtain ⟨m, hturn, hnew, hkept⟩ := ih (n := n + 1)
        (s := { s with inputs := (c :: l).map (fun b => .rx (.ok b)) ++ rest, rxs := s.rxs ++ [b]
                       rxBuf := s.rxBuf.write n b })
        (List.cons_ne_nil c l) (by simp at hn ⊢; omega) hb hl (Memory.write_wf hwf n b) rfl
      refine ⟨m, ?_, ?_, fun i hi => (hkept i (by omega)).trans (hold i hi)⟩
      · rw [List.append_cons, turn_of_engineMove hstep]
        exact hturn
      · intro i hi
        cases i with
        | zero => exact (hkept n (Nat.lt_succ_self n)).trans (Memory.read_write_same hwf n b)
        | succ i =>
          rw [← Nat.add_assoc, Nat.add_right_comm]
          exact hnew i (Nat.lt_of_succ_lt_succ hi)

end Sys2Proof.Machine

namespace Sys2Proof.Claims

open Sys2Proof.Machine

/-- Settles O26: the check, then each attempt by its answer, and all 22 bytes in one turn. -/
theorem dataReceive : Obligations.DataReceive := by
  have hbegin {s : State} (hu : s.phState ≠ .uninitialized) := enterDataReceive_checked (s := s.latch .phDatarcv) hu
  refine ⟨fun s hb hu => exec_of_beginWait rfl hb (hbegin hu), fun s bytes rest hb hu hwf hlen hin => ?_,
    fun s n b rest hb hpos hn hwf ht => ?_, fun s b rest hb hl hpos hwf ht => ?_,
    fun s n a rest hb hl hpos hn ht ha he => ?_,
    fun s hb hu => exec_of_finished rfl hb (enterDataReceive_unchecked (s := s.latch .phDatarcv) hu)⟩
  · obtain ⟨m, hturn, hread, -⟩ := turn_dataRecv (s := issued .phDatarcv s) (n := 0)
      (List.ne_nil_of_length_pos (by omega)) (by omega) rfl rfl hwf hin
    refine ⟨_, exec_of_beginWait_turn rfl hb (hbegin hu) hturn, rfl, fun i hi => ?_⟩
    have hi := hread i (by omega)
    rwa [Nat.zero_add] at hi
  · exact ⟨_, engineMove_dataRecv_next hb hpos ht hn, rfl, Memory.read_write_same hwf n b,
      fun i hi => Memory.read_write_other hwf b hi⟩
  · exact ⟨_, engineMove_dataRecv_last hb hpos ht hl rfl, rfl, Memory.read_write_same hwf 21 b,
      fun i hi => Memory.read_write_other hwf b hi⟩
  · have hcode : (if n = 0 then ErrCode.timeout else .none).code = if n = 0 then 2#4 else 0#4 := by split <;> rfl
    have hm := engineMove_receive_expired hb hpos rfl ht (fun b h => absurd h (ha b)) he
    rw [heard_of_ne_ok ha, List.append_nil] at hm
    rw [hm, ← hcode]
    exact congrArg some (endDataReceive_host (s := { s with inputs := rest }) hl n)

end Sys2Proof.Claims
end

section
/-! SUPPORT. The frame as a list of bytes (R86 to R90, R180, R181): the parity of a changed list, the checks of a
receiver on a frame its builder wrote, and the fields it reads back. -/

namespace Sys2Proof.Machine

open Sys2Proof.Claims

/-! ### The parity (R180, R181) -/

theorem parity_singleton (b : Byte) : parity [b] = b := rfl

theorem parity_append_eq_zero_iff (bytes : List Byte) (c : Byte) :
    parity (bytes ++ [c]) = 0#8 ↔ c = parity bytes := by
  rw [parity_append, parity_singleton, BitVec.xor_eq_zero_iff, eq_comm]

/-- One byte stands in the fold once, so the fold is another when it is. -/
theorem parity_append_cons_inj {before after : List Byte} {x y : Byte} :
    parity (before ++ x :: after) = parity (before ++ y :: after) ↔ x = y := by
  have hfold (z : Byte) : parity (before ++ z :: after) = parity before ^^^ z ^^^ parity after := by
    rw [List.append_cons, parity_append, parity_append, parity_singleton]
  rw [hfold, hfold, BitVec.xor_left_inj, BitVec.xor_right_inj]

theorem parity_set_eq_iff {bytes : List Byte} {i : Nat} (hi : i < bytes.length) {x : Byte} :
    parity (bytes.set i x) = parity bytes ↔ x = bytes[i] := by
  conv_lhs => rhs; rw [← List.set_getElem_self hi]
  rw [List.set_eq_take_append_cons_drop, List.set_eq_take_append_cons_drop, if_pos hi, if_pos hi]
  exact parity_append_cons_inj

/-! ### The bytes of a frame (R86 to R90) -/

theorem controlByte_eq_append : ∀ (ft : BitVec 1) (prio : BitVec 2),
    controlByte ft prio = ft ++ 0b001#3 ++ prio ++ 0b00#2 := by decide

theorem addrLenByte_eq_append : ∀ (at_ : BitVec 1) (len : BitVec 4), addrLenByte at_ len = at_ ++ 0b000#3 ++ len := by
  decide

/-- The frame in the words of the statements is what the builder writes. -/
theorem frameBytes_eq (ft at_ : BitVec 1) (prio : BitVec 2) (src dst : Addr) (len : BitVec 4) (payload : List Byte) :
    frameBytes ft at_ prio src dst len payload =
      bodyBytes ft at_ prio src dst len payload ++ [parity (bodyBytes ft at_ prio src dst len payload)] := by
  rw [parity_eq_foldl, bodyBytes, controlByte_eq_append, addrLenByte_eq_append]
  rfl

@[simp] theorem controlValid_controlByte : ∀ (ft : BitVec 1) (prio : BitVec 2),
    controlValid (controlByte ft prio) = true := by decide

@[simp] theorem controlFrameType_controlByte : ∀ (ft : BitVec 1) (prio : BitVec 2),
    controlFrameType (controlByte ft prio) = ft := by decide

@[simp] theorem controlPriority_controlByte : ∀ (ft : BitVec 1) (prio : BitVec 2),
    controlPriority (controlByte ft prio) = prio := by decide

@[simp] theorem addrLenType_addrLenByte : ∀ (at_ : BitVec 1) (len : BitVec 4),
    addrLenType (addrLenByte at_ len) = at_ := by decide

@[simp] theorem addrLenLen_addrLenByte : ∀ (at_ : BitVec 1) (len : BitVec 4),
    addrLenLen (addrLenByte at_ len) = len := by decide

/-- An address is its two bytes. -/
theorem addr_append (a : Addr) : a.extractLsb' 8 8 ++ a.extractLsb' 0 8 = a :=
  (BitVec.extractLsb'_append_extractLsb'_eq_extractLsb' rfl).trans BitVec.extractLsb'_eq_self

theorem length_take_payload {payload : List Byte} (hy : payload.length = 15) (len : BitVec 4) :
    (payload.take len.toNat).length = len.toNat := by
  rw [List.length_take, hy]
  omega

/-- A payload byte changed in the frame is that byte changed in the payload. -/
theorem bodyBytes_set (ft at_ : BitVec 1) (prio : BitVec 2) (src dst : Addr) (len : BitVec 4) (payload : List Byte)
    (j : Nat) (x : Byte) : (bodyBytes ft at_ prio src dst len payload).set (6 + j) x =
      bodyBytes ft at_ prio src dst len (payload.set j x) := by
  rw [Nat.add_comm, bodyBytes, bodyBytes, List.take_set]
  rfl

/-! ### The checks of the addressed receiver (R185, R189) -/

section Frame

variable (at_ : BitVec 1) (prio : BitVec 2) (src dst : Addr) (len : BitVec 4) {payload : List Byte}
  (hy : payload.length = 15)
include hy

/-- On a built standard frame with any last byte only the checksum and `busy` decide. -/
theorem frameVerdict_bodyBytes (c : Byte) (busy : Bool) :
    frameVerdict (bodyBytes 1#1 at_ prio src dst len payload ++ [c]) dst busy =
      .answer (if c = parity (bodyBytes 1#1 at_ prio src dst len payload) then if busy then .busy else .ack
        else .nack) := by
  set body := bodyBytes 1#1 at_ prio src dst len payload
  have hlen : body.length = 6 + len.toNat := length_bodyBytes 1#1 at_ prio src dst len hy
  have hcontrol : (body ++ [c]).getD 0 0#8 = controlByte 1#1 prio := rfl
  have hdst : (body ++ [c]).getD 3 0#8 ++ (body ++ [c]).getD 4 0#8 = dst := addr_append dst
  have haddrlen : (body ++ [c]).getD 5 0#8 = addrLenByte at_ len := rfl
  have htake : (body ++ [c]).take (6 + len.toNat) = body := List.take_left' hlen
  have hlast : (body ++ [c]).getD (6 + len.toNat) 0#8 = c := by
    rw [← hlen]
    simp [List.getD]
  have hn : (body ++ [c]).length = 6 + len.toNat + 1 := by
    rw [List.length_append, hlen, List.length_singleton]
  simp only [frameVerdict, hn, hcontrol, hdst, haddrlen, Nat.add_sub_cancel, htake, hlast, Config.minFrame,
    controlValid_controlByte, controlFrameType_controlByte, addrLenLen_addrLenByte]
  rw [if_neg (by omega), if_neg (by decide), if_neg (by decide), if_neg (not_not_intro rfl)]
  split
  next hc => rw [if_neg (Ne.symm hc)]
  next hc =>
    rw [if_neg (by omega), if_pos (not_ne_iff.mp hc).symm]
    split <;> rfl

/-- R189: another byte in the payload leaves every check before the checksum as it is. -/
theorem frameVerdict_frameBytes_set {j : Nat} {x : Byte} (hj : j < len.toNat)
    (hx : x ≠ (frameBytes 1#1 at_ prio src dst len payload).getD (6 + j) 0#8) (busy : Bool) :
    frameVerdict ((frameBytes 1#1 at_ prio src dst len payload).set (6 + j) x) dst busy = .answer .nack := by
  have hlt : 6 + j < (bodyBytes 1#1 at_ prio src dst len payload).length := by
    rw [length_bodyBytes 1#1 at_ prio src dst len hy]
    omega
  rw [frameBytes_eq] at hx ⊢
  rw [List.getD_append _ _ _ _ hlt, List.getD_eq_getElem _ _ hlt] at hx
  have hparity := mt (parity_set_eq_iff hlt).mp hx
  rw [bodyBytes_set] at hparity
  rw [List.set_append_left _ _ hlt, bodyBytes_set,
    frameVerdict_bodyBytes at_ prio src dst len (by rwa [List.length_set]), if_neg (Ne.symm hparity)]

end Frame

/-! ### The output registers (R28, R185) -/

/-- The payload bytes stand first, the free values after them. -/
theorem payload_isPrefix_payloadWithFree {payload : List Byte} (h : payload.length ≤ 15) (c : Nat) :
    payload <+: payloadWithFree payload c := by
  rw [payloadWithFree, List.take_of_length_le h]
  exact List.prefix_append _ _

theorem payload_of_frameBytes (ft at_ : BitVec 1) (prio : BitVec 2) (src dst : Addr) (len : BitVec 4)
    {payload : List Byte} (hy : payload.length = 15) :
    ((frameBytes ft at_ prio src dst len payload).drop 6).take len.toNat = payload.take len.toNat := by
  rw [frameBytes_eq]
  exact List.take_left' (length_take_payload hy len)

end Sys2Proof.Machine

namespace Sys2Proof.Claims

open Sys2Proof.Machine

/-- Settles O38: the receiver's checks and fields on the bytes the builder writes, and on those with a byte changed. -/
theorem frameRoundTrip : Obligations.FrameRoundTrip := by
  intro s at_ prio src dst len payload hy f
  have hcontrol : f.getD 0 0#8 = controlByte 1#1 prio := (controlByte_eq_append 1#1 prio).symm
  have haddrlen : f.getD 5 0#8 = addrLenByte at_ len := (addrLenByte_eq_append at_ len).symm
  have hle : (payload.take len.toNat).length ≤ 15 := by
    rw [length_take_payload hy]
    omega
  have hout : (s.outFields f).outPayload = payloadWithFree (payload.take len.toNat) s.freeCtr := by
    rw [State.outFields_outPayload, haddrlen, addrLenLen_addrLenByte, payload_of_frameBytes _ _ _ _ _ _ hy]
  refine ⟨?_, ?_, ?_, addr_append src, addr_append dst, ?_, ?_, ?_,
    fun j x hj hx => frameVerdict_frameBytes_set at_ prio src dst len hy hj hx false⟩
  · rw [show f = _ from frameBytes_eq .., frameVerdict_bodyBytes at_ prio src dst len hy, if_pos rfl]
    rfl
  · rw [State.outFields_outFt, hcontrol, controlFrameType_controlByte]
  · rw [State.outFields_outPrio, hcontrol, controlPriority_controlByte]
  · rw [State.outFields_outAt, haddrlen, addrLenType_addrLenByte]
  · rw [State.outFields_outLen, haddrlen, addrLenLen_addrLenByte]
  · have hfront := payload_isPrefix_payloadWithFree hle s.freeCtr
    rw [List.prefix_iff_eq_take, length_take_payload hy] at hfront
    rw [hout, ← hfront]

/-- Settles O29: the fold of two lists put together is the fold of their folds. -/
theorem parityVerifiesItself : Obligations.ParityVerifiesItself :=
  ⟨fun bytes c _ => parity_append_eq_zero_iff bytes c, fun _ _ _ _ hne => mt parity_append_cons_inj.mp hne⟩

end Sys2Proof.Claims
end

section
/-! SUPPORT. `DL_SEND` (R182 to R184): the frame in `TXBUF`, then `data_request` with its results mapped. -/

namespace Sys2Proof.Machine

open Sys2Proof.Claims

/-! ### The built frame in the words of the statements (R182) -/

theorem txLen_eq_ofNat (len : BitVec 4) : 7#6 + len.setWidth 6 = BitVec.ofNat 6 (7 + len.toNat) :=
  BitVec.eq_of_toNat_eq (by rw [toNat_txLen, BitVec.toNat_ofNat, Nat.mod_eq_of_lt (by omega)])

theorem length_frameBytes (ft at_ : BitVec 1) (prio : BitVec 2) (src dst : Addr) (len : BitVec 4) {payload : List Byte}
    (hy : payload.length = 15) : (frameBytes ft at_ prio src dst len payload).length = 7 + len.toNat := by
  rw [frameBytes_eq, List.length_append, length_bodyBytes ft at_ prio src dst len hy, List.length_singleton]
  omega

/-- `s` with `TXBUF` become `m`, and `tx_len` for `len` payload bytes: all that the builder writes. -/
def State.withFrame (s : State) (m : Memory) (len : BitVec 4) : State :=
  { s with txBuf := m, txLen := BitVec.ofNat 6 (7 + len.toNat) }

/-- `m` holds the frame of these fields and what stood above it in `s` (R182). -/
def holdsFrame (ft at_ : BitVec 1) (prio : BitVec 2) (dst : Addr) (len : BitVec 4) (payload : List Byte) (s : State)
    (m : Memory) : Prop :=
  (∀ i, i < 7 + len.toNat → m.read i = (frameBytes ft at_ prio s.localAddr dst len payload).getD i 0#8) ∧
  ∀ i, 7 + len.toNat ≤ i → m.read i = s.txBuf.read i

/-- A buffer that holds a list from its first place on reads as the list. -/
theorem map_read_range {m : Memory} {bytes : List Byte} {n : Nat} (hn : bytes.length = n)
    (h : ∀ i, i < n → m.read i = bytes.getD i 0#8) : (List.range n).map m.read = bytes := by
  refine List.ext_getElem (by simp [hn]) fun i hi hi' => ?_
  rw [List.getElem_map, List.getElem_range, h i (hn ▸ hi'), List.getD_eq_getElem _ _ hi']

section Build

variable (ft at_ : BitVec 1) (prio : BitVec 2) (dst : Addr) (len : BitVec 4) {payload : List Byte} {s : State}
  (hy : payload.length = 15) (hwf : s.txBuf.wf)
include hy hwf

theorem build_holdsFrame : ∃ m, holdsFrame ft at_ prio dst len payload s m ∧
    build ft at_ prio dst len payload s = s.withFrame m len := by
  obtain ⟨hbuild, -, hbytes, hkept⟩ := build_spec ft at_ prio dst len hy hwf
  rw [← frameBytes_eq] at hbytes
  rw [txLen_eq_ofNat] at hbuild
  exact ⟨(build ft at_ prio dst len payload s).txBuf, ⟨hbytes, hkept⟩, hbuild⟩

/-- `DL_SEND` from its issue: `data_request` on the built frame (R183). -/
theorem exec_dlSend (hb : s.engBusy = false) : ∃ m, holdsFrame ft at_ prio dst len payload s m ∧
    exec (.dlSend ft at_ prio dst len payload) s =
      .next (turn (enterDataRequest (BitVec.ofNat 6 (7 + len.toNat)) Config.tDl
        ((issued (.dlSend ft at_ prio dst len payload) s).withFrame m len))) := by
  obtain ⟨m, hframe, hbuild⟩ := build_holdsFrame ft at_ prio dst len hy hwf
    (s := issued (.dlSend ft at_ prio dst len payload) s)
  refine ⟨m, hframe, (exec_command_idle rfl hb).trans (congrArg (Host.Outcome.next ∘ turn) ?_)⟩
  show enterDataRequest (build _ _ _ _ _ _ (issued _ s)).txLen Config.tDl (build _ _ _ _ _ _ (issued _ s)) = _
  rw [hbuild]
  rfl

end Build

/-! ### What goes back to `DL_SEND` (R184) -/

theorem mapDl_classifyConfirm_code (b : Byte) :
    (mapDl (classifyConfirm b)).code = if b = 0x8B#8 then 0#4 else if b = 0x0B#8 then 5#4 else 2#4 := by
  unfold classifyConfirm
  split
  · rfl
  · split <;> rfl

section Return

variable {s : State} {ft at_ : BitVec 1} {prio : BitVec 2} {dst : Addr} {len : BitVec 4} {payload : List Byte}
  (hl : s.latched = some (.dlSend ft at_ prio dst len payload))
include hl

theorem returnDataRequest_dlSend (e : ErrCode) : returnDataRequest e s = s.complete (mapDl e) := by
  simp only [returnDataRequest, hl]

/-- A byte the confirm wait accepts gives the code of its class, mapped. -/
theorem engineMove_dlSend_confirm {b : Byte} {rest : List Input} (hb : s.engBusy = true) (hpos : s.pos = .dataConfirm)
    (ht : takeRx s.inputs = some (.ok b, rest)) (hmask : b &&& 0x0B#8 = 0x0B#8) :
    engineMove s = some (finished (if b = 0x8B#8 then 0#4 else if b = 0x0B#8 then 5#4 else 2#4)
      { s with inputs := rest, rxs := s.rxs ++ [b] }) := by
  rw [engineMove_receive_accepted hb hpos rfl ht (waitMask_accepts_iff.mpr hmask), ← mapDl_classifyConfirm_code]
  exact congrArg some (returnDataRequest_dlSend (s := { s with inputs := rest, rxs := s.rxs ++ [b] }) hl _)

/-- Every byte taken and a confirm at hand: the whole of `data_request` in one turn (log 4). -/
theorem turn_dlSend {n : Nat} {t : Tick} {b : Byte} {rest : List Input} {bytes : List Byte}
    (hb : s.engBusy = true) (hpos : 0 < n) (hn : n ≤ 22) (hmask : b &&& 0x0B#8 = 0x0B#8)
    (hbytes : (List.range n).map s.txBuf.read = bytes)
    (hin : s.inputs = List.replicate (2 * n) (.tx .ok) ++ .rx (.ok b) :: rest) :
    turn (waiting t (.dataMark n t 0) s) =
      finished (if b = 0x8B#8 then 0#4 else if b = 0x0B#8 then 5#4 else 2#4) (waiting t .idle
        { s with inputs := rest, rxs := s.rxs ++ [b], txs := s.txs ++ segments bytes }) := by
  have hsegments := turn_segments (s := waiting t (.dataMark n t 0) s) hb (Nat.zero_add n) rfl hpos hin
  have hconfirm := engineMove_dlSend_confirm hl hb rfl rfl hmask (rest := rest)
    (s := waiting t .dataConfirm { s with
      inputs := .rx (.ok b) :: rest, txs := s.txs ++ (List.range' 0 n).flatMap (segment s.txBuf n) })
  rw [← hbytes, segments_first _ hn, List.range_eq_range']
  exact hsegments.trans (turn_of_finished hconfirm)

end Return

end Sys2Proof.Machine

namespace Sys2Proof.Claims

open Sys2Proof.Machine

/-- Settles O25: each way `data_request` can end goes back through the mapping. -/
theorem sendResultsAreMapped : Obligations.SendResultsAreMapped := by
  intro s ft at_ prio dst len payload hb hl
  refine ⟨fun n i t a rest hpos ht ha he => ?_, fun a rest hpos ht => ⟨?_, ?_, ?_, fun ha he => ?_⟩⟩
  · have hmapped := returnDataRequest_dlSend (s := { s with inputs := rest }) hl .request
    rcases hpos with hpos | hpos <;>
      exact (engineMove_send_expired hb hpos rfl ht ha he).trans (congrArg some hmapped)
  · rintro rfl
    exact engineMove_dlSend_confirm hl hb hpos ht (by decide)
  · rintro rfl
    exact engineMove_dlSend_confirm hl hb hpos ht (by decide)
  · rintro b rfl hmask h8B h0B
    rw [engineMove_dlSend_confirm hl hb hpos ht hmask, if_neg h8B, if_neg h0B]
  · rw [engineMove_receive_expired hb hpos rfl ht (waitMask_not_accepts ha) he]
    exact congrArg some (returnDataRequest_dlSend (s := { s with inputs := rest, rxs := s.rxs ++ heard a }) hl .timeout)

/-- Settles O30: the frame is in `TXBUF` when `data_request` finds the state wrong. -/
theorem frameIsBuiltBeforeTheStateCheck : Obligations.FrameIsBuiltBeforeTheStateCheck := by
  intro s ft at_ prio dst len payload hb hu hwf hy
  obtain ⟨m, ⟨hbytes, hkept⟩, hexec⟩ := exec_dlSend ft at_ prio dst len hy hwf hb
  refine ⟨finished 2#4 (s.withFrame m len), ?_, rfl, hbytes, hkept⟩
  rw [hexec, enterDataRequest_unchecked (s := (issued _ s).withFrame m len) hu, returnDataRequest_dlSend rfl,
    turn_complete]
  rfl

/-- Settles O31: the built frame is what `data_request` reads out of `TXBUF`, and its confirm is mapped. -/
theorem dlSendSendsTheFrame : Obligations.DlSendSendsTheFrame := by
  intro s ft at_ prio dst len payload b rest hb hu hwf hy hmask hin
  obtain ⟨m, ⟨hbytes, hkept⟩, hexec⟩ := exec_dlSend ft at_ prio dst len hy hwf hb
  have hn : (BitVec.ofNat 6 (7 + len.toNat)).toNat = 7 + len.toNat := by rw [← txLen_eq_ofNat, toNat_txLen]
  have hsent := map_read_range (length_frameBytes ft at_ prio s.localAddr dst len hy) hbytes
  have hturn := turn_dlSend (t := Config.tDl) rfl rfl (by omega) (by omega) hmask hsent hin
    (s := (issued (.dlSend ft at_ prio dst len payload) s).withFrame m len)
  rw [enterDataRequest_checked (s := (issued _ s).withFrame m len) hu (by omega) (by omega), hn] at hexec
  exact ⟨_, hexec.trans (congrArg Host.Outcome.next hturn), rfl, hbytes, hkept⟩

end Sys2Proof.Claims
end

section
/-! SUPPORT. `DL_RECV` (R185, R186): its checks in the words of the statements, what goes back to it from `data_receive`
and `ph_ack`, and all of it in one turn on a full buffer. -/

namespace Sys2Proof.Machine

open Sys2Proof.Claims

/-! ### The checks in the words of the statements (R185) -/

/-- The code and the acknowledgement a verdict stands for. -/
def Verdict.result : Verdict → BitVec 4 × Option AckKind
  | .silent e => (e.code, none)
  | .answer kind => (ackCode kind, some kind)

theorem not_controlValid_iff : ∀ c : Byte,
    (!controlValid c) = true ↔ c &&& 0x10#8 ≠ 0x10#8 ∨ c &&& 0x63#8 ≠ 0#8 := by decide

theorem controlFrameType_ne_standard_iff : ∀ c : Byte,
    controlFrameType c ≠ Config.ftStandard ↔ c.getLsbD 7 = false := by decide

theorem addrLenLen_toNat : ∀ b : Byte, (addrLenLen b).toNat = (b &&& 0x0F#8).toNat := by decide

theorem parseResult_eq_result (f : List Byte) (a : Addr) (busy : Bool) :
    parseResult f a busy = (frameVerdict f a busy).result := by
  simp only [frameVerdict, not_controlValid_iff, controlFrameType_ne_standard_iff, addrLenLen_toNat, parity_eq_foldl,
    apply_ite Verdict.result]
  rfl

section Result

variable {f : List Byte} {a : Addr} {busy : Bool}

theorem silent_of_parseResult (h : (parseResult f a busy).2 = none) :
    ∃ e, frameVerdict f a busy = .silent e ∧ (parseResult f a busy).1 = e.code := by
  rw [parseResult_eq_result] at h ⊢
  cases hv : frameVerdict f a busy with
  | silent e => exact ⟨e, rfl, rfl⟩
  | answer kind => rw [hv] at h; cases h

theorem answer_of_parseResult {kind : AckKind} (h : (parseResult f a busy).2 = some kind) :
    frameVerdict f a busy = .answer kind ∧ (parseResult f a busy).1 = ackCode kind := by
  rw [parseResult_eq_result] at h ⊢
  cases hv : frameVerdict f a busy with
  | silent e => rw [hv] at h; cases h
  | answer kind' => rw [hv] at h; cases h; exact ⟨rfl, rfl⟩

end Result

/-- R186: the address is looked at before the checksum, the length byte and `busy`. -/
theorem frameVerdict_foreign {f : List Byte} {a : Addr} (hlen : 7 ≤ f.length)
    (hcontrol : f.getD 0 0#8 ∈ [0x90#8, 0x94#8, 0x98#8, 0x9C#8]) (haddr : f.getD 3 0#8 ++ f.getD 4 0#8 ≠ a)
    (busy : Bool) : frameVerdict f a busy = .silent .addressError := by
  have hstandard : ∀ c : Byte, c ∈ [0x90#8, 0x94#8, 0x98#8, 0x9C#8] →
      ¬ (!controlValid c) = true ∧ ¬ controlFrameType c ≠ Config.ftStandard := by decide
  obtain ⟨hvalid, hft⟩ := hstandard _ hcontrol
  simp only [frameVerdict]
  rw [if_neg (not_lt_of_ge (a := Config.minFrame) hlen), if_neg hvalid, if_neg hft, if_pos haddr]

/-- An accepted frame is as long as its length byte declares. -/
theorem length_of_frameVerdict_ack {f : List Byte} {a : Addr} {busy : Bool} (h : frameVerdict f a busy = .answer .ack) :
    f.length = 7 + (addrLenLen (f.getD 5 0#8)).toNat := by
  simp only [frameVerdict, ite_eq_iff, reduceCtorEq, and_false, false_or, Verdict.answer.injEq] at h
  obtain ⟨hlen, -, -, -, -, hfit, -⟩ := h
  have hmin : 7 ≤ f.length := Nat.not_lt.mp hlen
  omega

/-! ### The output registers (R28) -/

theorem outHolds_outFields {s : State} {f : List Byte} (hfit : 6 + (addrLenLen (f.getD 5 0#8)).toNat ≤ f.length) :
    outHolds f (s.outFields f) := by
  refine ⟨rfl, rfl, rfl, rfl, rfl, rfl, fun j hj => ?_⟩
  have hj : j < (addrLenLen (f.getD 5 0#8)).toNat := hj
  set l := (addrLenLen (f.getD 5 0#8)).toNat
  have hlen : ((f.drop 6).take l).length = l := by
    rw [List.length_take, List.length_drop]
    omega
  obtain ⟨free, hfree⟩ := payload_isPrefix_payloadWithFree (payload := (f.drop 6).take l) (by omega) s.freeCtr
  rw [State.outFields_outPayload, ← hfree, List.getD_append _ _ _ _ (by omega), List.getD,
    List.getElem?_take_of_lt hj, List.getElem?_drop]
  rfl

/-- `DL_RECV` ends: `RES_LEN`, the code and completion, and otherwise the `OUT_*` registers only. -/
theorem finishDlRecv_sameButOut (e : ErrCode) (s : State) :
    sameButOut (finished e.code { s with resLen := s.rxLen }) (finishDlRecv e s) := by
  unfold finishDlRecv
  split <;> rfl

theorem finishDlRecv_outHolds {s : State}
    (hfit : 6 + (addrLenLen (s.received.getD 5 0#8)).toNat ≤ s.received.length) :
    outHolds s.received (finishDlRecv .none s) := outHolds_outFields (s := s) hfit

/-! ### What goes back to `DL_RECV` (R185) -/

theorem ackResult_code (kind : AckKind) : (ackResult kind).code = ackCode kind := by cases kind <;> rfl

theorem parseFrame_silent {s : State} {e : ErrCode}
    (h : frameVerdict s.received s.localAddr s.busy = .silent e) : parseFrame s = finishDlRecv e s := by
  simp only [parseFrame, h]

theorem parseFrame_answer {s : State} {kind : AckKind} (hu : s.phState ≠ .uninitialized)
    (h : frameVerdict s.received s.localAddr s.busy = .answer kind) :
    parseFrame s = s.beginWait Config.tAck (.ackSend kind) := by
  simp only [parseFrame, h, enterPhAck_checked hu]

/-- The first `n` places of `RXBUF` are what has been received once `rx_len` says so. -/
theorem received_of_rxLen {s : State} {n : Nat} (hn : n ≤ 22) :
    ({ s with rxLen := BitVec.ofNat 6 n } : State).received = (List.range n).map s.rxBuf.read := by
  have hlen : (BitVec.ofNat 6 n).toNat = n := by rw [BitVec.toNat_ofNat, Nat.mod_eq_of_lt (by omega)]
  simp only [State.received, Memory.first, hlen]

/-- The per-byte wait ends with `n` bytes stored. -/
theorem engineMove_dataRecv_silence {s : State} {n : Nat} {a : RecvAnswer} {rest : List Input} (hb : s.engBusy = true)
    (hpos : s.pos = .dataRecv n) (ht : takeRx s.inputs = some (a, rest)) (ha : ∀ b, a ≠ .ok b) (he : expired s) :
    engineMove s = some (endDataReceive n { s with inputs := rest }) := by
  have hm := engineMove_receive_expired hb hpos rfl ht (fun b h => absurd h (ha b)) he
  rwa [heard_of_ne_ok ha, List.append_nil] at hm

section Return

variable {s : State} (hl : s.latched = some .dlRecv)
include hl

theorem returnPhAck_dlRecv (kind : AckKind) (e : ErrCode) : returnPhAck kind e s = finishDlRecv (ackResult kind) s := by
  simp only [returnPhAck, hl]

theorem returnDataReceive_dlRecv_state : returnDataReceive .state s = finishDlRecv .timeout s := by
  simp only [returnDataReceive, hl]
  rfl

theorem endDataReceive_dlRecv_zero :
    endDataReceive 0 s = finishDlRecv .timeout { s with rxLen := 0#6 } := by
  simp only [endDataReceive, returnDataReceive, hl]
  rfl

theorem endDataReceive_dlRecv {n : Nat} (hn : n ≠ 0) :
    endDataReceive n s = parseFrame { s with rxLen := BitVec.ofNat 6 n } := by
  simp only [endDataReceive, returnDataReceive, hl, if_neg hn, if_true]

variable {rest : List Input} (hb : s.engBusy = true)
include hb

/-- The acknowledgement taken, or given up at the deadline. -/
theorem engineMove_dlRecv_ackSend {kind : AckKind} {a : SendAnswer} (hpos : s.pos = .ackSend kind)
    (ht : takeTx s.inputs = some (a, rest)) (h : a = .ok ∨ expired s) :
    engineMove s = some (finishDlRecv (ackResult kind)
      { s with inputs := rest, txs := if a = .ok then s.txs ++ [ackByte kind] else s.txs }) := by
  by_cases ha : a = .ok
  · subst ha
    rw [engineMove_send_ok hb hpos rfl ht, AckKind.byte_eq, if_pos rfl]
    exact congrArg some (returnPhAck_dlRecv (s := { s with inputs := rest, txs := s.txs ++ [ackByte kind] }) hl _ _)
  · rw [engineMove_send_expired hb hpos rfl ht ha (h.resolve_left ha), if_neg ha]
    exact congrArg some (returnPhAck_dlRecv (s := { s with inputs := rest }) hl _ _)

/-- The byte that fills the buffer leads to the checks. -/
theorem engineMove_dlRecv_last {b : Byte} (hpos : s.pos = .dataRecv 21) (ht : takeRx s.inputs = some (.ok b, rest)) :
    engineMove s = some (parseFrame
      { s with inputs := rest, rxs := s.rxs ++ [b], rxBuf := s.rxBuf.write 21 b, rxLen := 22#6 }) :=
  (engineMove_receive_accepted hb hpos rfl ht rfl).trans (congrArg some (endDataReceive_dlRecv (n := 22)
    (s := { s with inputs := rest, rxs := s.rxs ++ [b], rxBuf := s.rxBuf.write 21 b }) hl (by decide)))

end Return

/-! ### All 22 bytes in one turn (R157; log 4) -/

/-- The bytes `l` written into a buffer from place `i` on. -/
def Memory.writeFrom : Memory → Nat → List Byte → Memory
  | m, _, [] => m
  | m, i, b :: l => (m.write i b).writeFrom (i + 1) l

theorem Memory.writeFrom_append (m : Memory) (i : Nat) (l l' : List Byte) :
    m.writeFrom i (l ++ l') = (m.writeFrom i l).writeFrom (i + l.length) l' := by
  induction l generalizing m i with
  | nil => rfl
  | cons b l ih =>
    rw [List.cons_append, writeFrom, ih, List.length_cons, Nat.add_right_comm]
    rfl

theorem Memory.read_writeFrom_below {m : Memory} (hm : m.wf) {i k : Nat} (hk : k < i) (l : List Byte) :
    (m.writeFrom i l).read k = m.read k := by
  induction l generalizing m i with
  | nil => rfl
  | cons b l ih => exact (ih (write_wf hm i b) (by omega)).trans (read_write_other hm b (by omega))

theorem Memory.read_writeFrom {m : Memory} (hm : m.wf) {i k : Nat} {l : List Byte} (hk : k < l.length) :
    (m.writeFrom i l).read (i + k) = l.getD k 0#8 := by
  induction l generalizing m i k with
  | nil => exact absurd hk (Nat.not_lt_zero k)
  | cons b l ih =>
    cases k with
    | zero => exact (read_writeFrom_below (write_wf hm i b) (Nat.lt_succ_self i) l).trans (read_write_same hm i b)
    | succ k =>
      rw [Nat.add_succ, ← Nat.succ_add]
      exact ih (write_wf hm i b) (Nat.lt_of_succ_lt_succ hk)

/-- `s` with the bytes `l` received into `RXBUF` from place `n` on, and `rest` still to come. -/
def stored (n : Nat) (l : List Byte) (rest : List Input) (s : State) : State :=
  { s with inputs := rest, rxs := s.rxs ++ l, rxBuf := s.rxBuf.writeFrom n l }

/-- Bytes at hand that do not fill the buffer are stored one after the other. -/
theorem turn_dataRecv_stored {l : List Byte} {s : State} {n : Nat} {rest : List Input} (hn : n + l.length < 22)
    (hb : s.engBusy = true) (hin : s.inputs = l.map (fun b => .rx (.ok b)) ++ rest) :
    turn (waiting Config.tRxByte (.dataRecv n) s) =
      turn (waiting Config.tRxByte (.dataRecv (n + l.length)) (stored n l rest s)) := by
  induction l generalizing s n with
  | nil =>
    subst hin
    simp [stored, Memory.writeFrom]
  | cons b l ih =>
    rw [List.length_cons] at hn
    have hstep := engineMove_dataRecv_next (s := waiting Config.tRxByte (.dataRecv n) s) hb rfl (congrArg takeRx hin)
      (by omega)
    have hrest := ih (n := n + 1) (s := stored n [b] (l.map (fun b => .rx (.ok b)) ++ rest) s) (by omega) hb rfl
    rw [List.length_cons, Nat.add_comm l.length, ← Nat.add_assoc, stored, List.append_cons]
    exact (turn_of_engineMove hstep).trans hrest

/-- `s` with the buffer full of `f`, as the last byte of `DL_RECV` leaves it. -/
def filled (f : List Byte) (rest : List Input) (s : State) : State :=
  { waiting Config.tRxByte (.dataRecv 21) (stored 0 f rest (issued .dlRecv s)) with rxLen := 22#6 }

section Full

variable {s : State} {f : List Byte} (hlen : f.length = 22)
include hlen

theorem read_filled (hwf : s.rxBuf.wf) (rest : List Input) {i : Nat} (hi : i < 22) :
    (filled f rest s).rxBuf.read i = f.getD i 0#8 := by
  have hread := Memory.read_writeFrom hwf (i := 0) (l := f) (k := i) (hlen ▸ hi)
  rwa [Nat.zero_add] at hread

theorem received_filled (hwf : s.rxBuf.wf) (rest : List Input) : (filled f rest s).received = f :=
  map_read_range hlen fun _ hi => read_filled hlen hwf rest hi

/-- `DL_RECV` from its issue to its checks. -/
theorem exec_dlRecv_full {rest : List Input} (hb : s.engBusy = false) (hu : s.phState ≠ .uninitialized)
    (hin : s.inputs = f.map (fun b => .rx (.ok b)) ++ rest) :
    exec .dlRecv s = .next (turn (parseFrame (filled f rest s))) := by
  obtain ⟨l, b, rfl⟩ : ∃ l b, f = l ++ [b] :=
    ⟨_, _, (List.dropLast_append_getLast (List.ne_nil_of_length_pos (by omega))).symm⟩
  have hl : l.length = 21 := by simpa using hlen
  rw [List.map_append, List.append_assoc] at hin
  have hbegin := exec_of_beginWait (i := .dlRecv) rfl hb (enterDataReceive_checked (s := s.latch .dlRecv) hu)
  have hbytes := turn_dataRecv_stored (s := issued .dlRecv s) (n := 0) (by omega) rfl hin
  have hlast := turn_of_engineMove (engineMove_dlRecv_last (b := b) (rest := rest) rfl rfl rfl rfl
    (s := waiting Config.tRxByte (.dataRecv 21) (stored 0 l (.rx (.ok b) :: rest) (issued .dlRecv s))))
  rw [Nat.zero_add, hl] at hbytes
  rw [hbegin, filled, stored, Memory.writeFrom_append, hl, ← List.append_assoc]
  exact congrArg Host.Outcome.next (hbytes.trans hlast)

/-- `DL_RECV` ends on a full buffer, wherever the transport's answers to it have led. -/
theorem finishDlRecv_filled (hwf : s.rxBuf.wf) (e : ErrCode) (is : List Input) (budget : Tick) (p : Pos)
    (txs : List Byte) :
    let t := finishDlRecv e { filled f is s with pollBudget := budget, pos := p, txs := txs }
    sameButOut (finished e.code
      { s with timerState := .running, ticks := 0#32, pollRef := 0#32, pollBudget := t.pollBudget
               inputs := t.inputs, txs := t.txs, rxs := s.rxs ++ f, rxBuf := t.rxBuf, rxLen := 22#6
               resLen := 22#6 }) t ∧
    (∀ i, i < 22 → t.rxBuf.read i = f.getD i 0#8) ∧ t.txs = txs ∧ t.inputs = is ∧
    (e = .none → 6 + (addrLenLen (f.getD 5 0#8)).toNat ≤ f.length → outHolds f t) := by
  intro t
  have hsame := finishDlRecv_sameButOut e { filled f is s with pollBudget := budget, pos := p, txs := txs }
  have hbudget : t.pollBudget = budget := congrArg State.pollBudget hsame
  have hin : t.inputs = is := congrArg State.inputs hsame
  have htxs : t.txs = txs := congrArg State.txs hsame
  have hrx : t.rxBuf = s.rxBuf.writeFrom 0 f := congrArg State.rxBuf hsame
  rw [hbudget, hin, htxs, hrx]
  refine ⟨hsame, fun i hi => read_filled hlen hwf is hi, rfl, rfl, ?_⟩
  rintro rfl hfit
  have hrec : ({ filled f is s with pollBudget := budget, pos := p, txs := txs } : State).received = f :=
    received_filled hlen hwf is
  have hout := finishDlRecv_outHolds (hrec.symm ▸ hfit)
  rwa [hrec] at hout

end Full

end Sys2Proof.Machine

namespace Sys2Proof.Claims

open Sys2Proof.Machine

/-- Settles O32: the state check, then the wait's end by the number of bytes, then the verdict. -/
theorem dlRecvChecksInOrder : Obligations.DlRecvChecksInOrder := by
  refine ⟨fun s hb hu => ?_,
    fun s hb hu => exec_of_beginWait rfl hb (enterDataReceive_checked (s := s.latch .dlRecv) hu),
    fun s n a rest hb hl hu hpos hn ht ha he => ?_⟩
  · have hend := (enterDataReceive_unchecked (s := s.latch .dlRecv) hu).trans (returnDataReceive_dlRecv_state rfl)
    have hexec := exec_command_idle (i := .dlRecv) rfl hb
    exact ⟨_, hexec.trans (congrArg Host.Outcome.next ((congrArg turn hend).trans (turn_idle rfl))),
      finishDlRecv_sameButOut .timeout (s.latch .dlRecv)⟩
  · have hm := engineMove_dataRecv_silence hb hpos ht ha he
    intro f u
    refine ⟨?_, fun hn0 => ?_, fun hn0 => ?_⟩
    · rintro rfl
      exact ⟨_, hm.trans (congrArg some (endDataReceive_dlRecv_zero hl)), finishDlRecv_sameButOut .timeout u⟩
    all_goals
      have hrec : u.received = f := received_of_rxLen (s := { s with inputs := rest }) (by omega)
      have hend := hm.trans (congrArg some (endDataReceive_dlRecv (s := { s with inputs := rest }) hl hn0))
    · intro hnone
      obtain ⟨e, hv, hcode⟩ := silent_of_parseResult hnone
      rw [← hrec] at hv
      rw [hcode]
      exact ⟨_, hend.trans (congrArg some (parseFrame_silent (s := u) hv)), finishDlRecv_sameButOut e u⟩
    · intro k hk
      obtain ⟨hv, -⟩ := answer_of_parseResult hk
      rw [← hrec] at hv
      exact hend.trans (congrArg some (parseFrame_answer (s := u) hu hv))

/-- Settles O33: the answer decides whether the byte is in `TXS`, and nothing else. -/
theorem dlRecvAcknowledges : Obligations.DlRecvAcknowledges := by
  intro s k a rest hb hl hpos ht h
  refine ⟨_, engineMove_dlRecv_ackSend hl hb hpos ht h, ?_, ?_⟩
  · rw [← ackResult_code]
    exact finishDlRecv_sameButOut _ _
  · rintro rfl h7 hfield h22
    have hlen : addrLenLen (s.rxBuf.read 5) = BitVec.ofNat 4 (s.rxLen.toNat - 7) := hfield
    refine finishDlRecv_outHolds (s := { s with
      inputs := rest, txs := if a = .ok then s.txs ++ [ackByte .ack] else s.txs }) ?_
    show 6 + (addrLenLen ((s.rxBuf.first s.rxLen.toNat).getD 5 0#8)).toNat ≤ (s.rxBuf.first s.rxLen.toNat).length
    rw [Memory.getD_first _ (by omega), Memory.length_first, hlen, BitVec.toNat_ofNat]
    omega

/-- Settles O34: the verdict on the 22 bytes is silent, or its acknowledgement is taken. -/
theorem dlRecvCompletes : Obligations.DlRecvCompletes := by
  intro s f rest hb hu hwf hlen hin
  have hexec := exec_dlRecv_full hlen hb hu hin
  have hrec := received_filled hlen hwf (.tx .ok :: rest)
  rw [parseResult_eq_result]
  cases hv : frameVerdict f s.localAddr s.busy with
  | silent e =>
    obtain ⟨hsame, hread, htxs, hin, -⟩ := finishDlRecv_filled hlen hwf e (.tx .ok :: rest) Config.tRxByte
      (.dataRecv 21) s.txs
    rw [parseFrame_silent (s := filled f (.tx .ok :: rest) s) (hrec.symm ▸ hv), turn_idle rfl] at hexec
    exact ⟨_, hexec, hsame, hread, nofun, fun _ => ⟨htxs, hin⟩, fun h => absurd (congrArg Prod.snd h) nofun⟩
  | answer k =>
    obtain ⟨hsame, hread, htxs, hin, hout⟩ := finishDlRecv_filled hlen hwf (ackResult k) rest Config.tAck
      (.ackSend k) (s.txs ++ [ackByte k])
    rw [ackResult_code] at hsame
    rw [parseFrame_answer (s := filled f (.tx .ok :: rest) s) hu (hrec.symm ▸ hv)] at hexec
    have hack := engineMove_dlRecv_ackSend (s := waiting Config.tAck (.ackSend k) (filled f (.tx .ok :: rest) s))
      rfl rfl rfl rfl (.inl rfl)
    have hturn := (turn_of_engineMove hack).trans (turn_idle rfl)
    refine ⟨_, hexec.trans (congrArg Host.Outcome.next hturn), hsame, hread, ?_, nofun, ?_⟩
    · rintro _ ⟨⟩
      exact ⟨htxs, hin⟩
    · intro h
      obtain rfl : k = .ack := Option.some.inj (congrArg Prod.snd h)
      have hfit := length_of_frameVerdict_ack hv
      exact hout rfl (by omega)

/-- Settles O35: the verdict on a frame for another node, in both places. -/
theorem addressFilter : Obligations.AddressFilter := by
  refine ⟨fun s n a rest hb hl hpos h7 hn ht ha he hcontrol haddr => ?_,
    fun s f rest hb hu hwf hlen hin hcontrol haddr => ?_⟩
  · have hrec := received_of_rxLen (s := { s with inputs := rest }) (n := n) (by omega)
    have hget (i : Nat) (hi : i < n) : ((List.range n).map s.rxBuf.read).getD i 0#8 = s.rxBuf.read i :=
      Memory.getD_first s.rxBuf hi 0#8
    rw [← hget 0 (by omega)] at hcontrol
    rw [← hget 3 (by omega), ← hget 4 (by omega)] at haddr
    have hv := frameVerdict_foreign (by simpa using h7) hcontrol haddr s.busy
    rw [← hrec] at hv
    have hend := (endDataReceive_dlRecv (s := { s with inputs := rest }) hl (by omega)).trans (parseFrame_silent hv)
    exact ⟨_, (engineMove_dataRecv_silence hb hpos ht ha he).trans (congrArg some hend), rfl, rfl,
      (finishDlRecv_frame _ _).txs⟩
  · have hv : frameVerdict (filled f rest s).received s.localAddr s.busy = .silent .addressError := by
      rw [received_filled hlen hwf]
      exact frameVerdict_foreign (by omega) hcontrol haddr s.busy
    have hexec := exec_dlRecv_full hlen hb hu hin
    rw [parseFrame_silent hv, turn_idle rfl] at hexec
    exact ⟨_, hexec, rfl, rfl, (finishDlRecv_frame _ _).txs⟩

end Sys2Proof.Claims
end

section
/-! SUPPORT. `DL_INIT` (R187): what the results of its two procedures lead to, round by round; and the local address
(R188). -/

namespace Sys2Proof.Machine

open Sys2Proof.Claims

/-! ### `Transport.init()` answers, and `ph_init` returns to its caller (R151) -/

section Init

variable {s : State} {k : Nat} {rest : List Input} (hb : s.engBusy = true) (hpos : s.pos = .transportInit k)
include hb hpos

theorem engineMove_transportInit_ok (ht : takeInit s.inputs = some (.ok, rest)) :
    engineMove s = some (returnPhInit k .none { s with inputs := rest, phState := .reset }) := by
  rw [engineMove_init hb (hpos ▸ rfl) ht]
  simp only [initStep, State.setInputs_pos, hpos]
  rfl

theorem engineMove_transportInit_error (ht : takeInit s.inputs = some (.error, rest)) :
    engineMove s = some (returnPhInit k .init { s with inputs := rest }) := by
  rw [engineMove_init hb (hpos ▸ rfl) ht]
  simp only [initStep, State.setInputs_pos, hpos]
  rfl

end Init

section Return

variable {s : State} (hl : s.latched = some .dlInit) {k : Nat}
include hl

/-! ### What goes back to `DL_INIT` (R187) -/

theorem returnPhInit_success : returnPhInit k .none s = enterPhReset 0 s := by
  simp only [returnPhInit, hl, if_true]

theorem returnPhReset_success : returnPhReset k .none s = s.complete .none := by
  simp only [returnPhReset, hl, if_true]

section Failure

variable {e : ErrCode} (he : e ≠ .none)
include he

theorem returnPhInit_again (hk : k + 1 < Config.nRetry) : returnPhInit k e s = enterPhInit (k + 1) s := by
  simp only [returnPhInit, hl, if_neg he, if_pos hk]

theorem returnPhInit_last (hk : Config.nRetry ≤ k + 1) : returnPhInit k e s = s.complete .init := by
  simp only [returnPhInit, hl, if_neg he, if_neg (Nat.not_lt.mpr hk)]

theorem returnPhReset_again (hk : k + 1 < Config.nRetry) : returnPhReset k e s = enterPhReset (k + 1) s := by
  simp only [returnPhReset, hl, if_neg he, if_pos hk]

theorem returnPhReset_last (hk : Config.nRetry ≤ k + 1) : returnPhReset k e s = s.complete .init := by
  simp only [returnPhReset, hl, if_neg he, if_neg (Nat.not_lt.mpr hk)]

end Failure

/-! ### The attempts that succeed -/

variable {rest : List Input} (hb : s.engBusy = true)
include hb

theorem engineMove_transportInit_success (hpos : s.pos = .transportInit k)
    (ht : takeInit s.inputs = some (.ok, rest)) :
    engineMove s = some (waiting Config.tSvc (.resetSend 0) { s with inputs := rest, phState := .reset }) := by
  rw [engineMove_transportInit_ok hb hpos ht]
  exact congrArg some (returnPhInit_success (s := { s with inputs := rest, phState := .reset }) hl)

theorem engineMove_resetWait_success (hpos : s.pos = .resetWait k)
    (ht : takeRx s.inputs = some (.ok 0x03#8, rest)) :
    engineMove s = some (finished 0#4
      { s with inputs := rest, rxs := s.rxs ++ [0x03#8], phState := .normal }) := by
  rw [engineMove_receive_accepted hb hpos rfl ht rfl]
  exact congrArg some (returnPhReset_success
    (s := { s with inputs := rest, rxs := s.rxs ++ [0x03#8], phState := .normal }) hl)

end Return

theorem resetWait_not_accepts {k : Nat} {a : RecvAnswer} (ha : a ≠ .ok 0x03#8) (b : Byte) (h : a = .ok b) :
    (Pos.resetWait k).accepts b = false := waitByte_not_accepts ha b h

end Sys2Proof.Machine

namespace Sys2Proof.Claims

open Sys2Proof.Machine

/-- `DL_INIT` with its three answers at hand is one turn (log 4). -/
theorem exec_dlInit_success {s : State} {r1 r2 r3 : List Input} (hb : s.engBusy = false)
    (hinit : takeInit s.inputs = some (.ok, r1)) (htx : takeTx r1 = some (.ok, r2))
    (hrx : takeRx r2 = some (.ok 0x03#8, r3)) :
    exec .dlInit s = .next (finished 0#4 (waiting Config.tSvc .idle
      { s with inputs := r3, txs := s.txs ++ [0x01#8], rxs := s.rxs ++ [0x03#8], phState := .normal
               busy := false })) := by
  have hup := engineMove_transportInit_success (s := enterPhInit 0 (s.latch .dlInit)) rfl rfl rfl hinit
  have hsend := engineMove_send_ok (s := waiting Config.tSvc (.resetSend 0)
    { enterPhInit 0 (s.latch .dlInit) with inputs := r1, phState := .reset }) rfl rfl rfl htx
  have hwait := engineMove_resetWait_success (s := waiting Config.tSvc (.resetWait 0)
    { enterPhInit 0 (s.latch .dlInit) with inputs := r2, txs := s.txs ++ [0x01#8], phState := .reset }) rfl rfl rfl hrx
  refine exec_of_turn rfl hb ((turn_of_engineMove hup).trans ((turn_of_engineMove hsend).trans ?_))
  exact turn_of_finished hwait

/-- Settles O36: the success path, then each attempt by its answer, and by the round where it fails. -/
theorem dataLinkInit : Obligations.DataLinkInit := by
  refine ⟨fun s r1 r2 r3 hb => exec_dlInit_success hb, fun s hb => exec_command_idle rfl hb,
    fun s k a rest hb hl hpos ht => ⟨?_, ?_, ?_⟩,
    fun s k a rest hb hl hpos ht => ⟨?_, fun ha he hk => ?_, fun ha he hk => ?_⟩,
    fun s k a rest hb hl hpos ht => ⟨?_, fun ha he hk => ?_, fun ha he hk => ?_⟩⟩
  · rintro rfl
    exact engineMove_transportInit_success hl hb hpos ht
  · rintro rfl hk
    rw [engineMove_transportInit_error hb hpos ht]
    exact congrArg some (returnPhInit_again (s := { s with inputs := rest }) hl nofun hk)
  · rintro rfl hk
    rw [engineMove_transportInit_error hb hpos ht]
    exact congrArg some (returnPhInit_last (s := { s with inputs := rest }) hl nofun hk)
  · rintro rfl
    exact engineMove_send_ok hb hpos rfl ht
  · rw [engineMove_send_expired hb hpos rfl ht ha he]
    exact congrArg some (returnPhReset_again (s := { s with inputs := rest }) (e := .request) hl nofun hk)
  · rw [engineMove_send_expired hb hpos rfl ht ha he]
    exact congrArg some (returnPhReset_last (s := { s with inputs := rest }) (e := .request) hl nofun hk)
  · rintro rfl
    exact engineMove_resetWait_success hl hb hpos ht
  · rw [engineMove_receive_expired hb hpos rfl ht (resetWait_not_accepts ha) he]
    exact congrArg some (returnPhReset_again (s := { s with inputs := rest, rxs := s.rxs ++ heard a })
      (e := .timeout) hl nofun hk)
  · rw [engineMove_receive_expired hb hpos rfl ht (resetWait_not_accepts ha) he]
    exact congrArg some (returnPhReset_last (s := { s with inputs := rest, rxs := s.rxs ++ heard a })
      (e := .timeout) hl nofun hk)

/-- Settles O37: each command's procedure is one write and completion. -/
theorem localAddress : Obligations.LocalAddress := fun _ _ hb =>
  ⟨exec_of_finished rfl hb rfl, exec_of_finished rfl hb rfl⟩

end Sys2Proof.Claims
end

section
/-! SUPPORT. With which codes a command completes (R210, R212). One property is carried through every procedure of the
engine: the latched command is at an attempt of its own procedure, or it is complete with a code of its row. The result
of a procedure that has several callers is bounded by the row of the host command that runs that procedure alone; each
caller's row then takes it in, or the caller maps it (R184, R185, R187). -/

namespace Sys2Proof.Machine

open Sys2Proof.Claims

/-- Command `i` is latched and not yet complete (R29). -/
def InProgress (i : Instr) (s : State) : Prop := s.engBusy = true ∧ s.latched = some i

/-- Command `i` is at an attempt of its procedure (R29), or complete with a code of its row of R212. -/
def OnTrack (i : Instr) (s : State) : Prop :=
  (InProgress i s ∧ posOf i s.pos) ∨ (s.engBusy = false ∧ s.resErr ∈ codesOf i)

section Operations

variable {s : State} {i : Instr}

theorem InProgress.latched (h : InProgress i s) : s.latched = some i := h.2

theorem OnTrack.complete {e : ErrCode} (he : e.code ∈ codesOf i) : OnTrack i (s.complete e) := .inr ⟨rfl, he⟩

theorem OnTrack.beginWait (h : InProgress i s) (t : Tick) {p : Pos} (hp : posOf i p) : OnTrack i (s.beginWait t p) :=
  .inl ⟨h, hp⟩

theorem OnTrack.weaken (h : OnTrack i s) :
    (s.engBusy = true ∧ s.latched = some i) ∨ (s.engBusy = false ∧ s.resErr ∈ codesOf i) := h.imp_left And.left

/-- A busy engine with a whole control state is on the track of the command it has latched. -/
theorem OnTrack.of_engineInv (he : s.EngineInv) (hb : s.engBusy = true) (hl : s.latched = some i) : OnTrack i s := by
  rw [State.EngineInv, if_pos hb] at he
  obtain ⟨j, hj, hp⟩ := he
  obtain rfl : j = i := Option.some.inj (hj.symm.trans hl)
  exact .inl ⟨⟨hb, hl⟩, hp⟩

end Operations

/-! ### The rows of R212 -/

@[simp] theorem codesOf_phSend (b : Byte) (t : Tick) : codesOf (.phSend b t) = [0#4, 2#4] := rfl
@[simp] theorem codesOf_phRecv (t : Tick) : codesOf (.phRecv t) = [0#4, 2#4] := rfl
@[simp] theorem codesOf_phWait (b : Byte) (t : Tick) : codesOf (.phWait b t) = [0#4, 4#4] := rfl
@[simp] theorem codesOf_phWaitm (b : Byte) (t : Tick) : codesOf (.phWaitm b t) = [0#4, 4#4] := rfl
@[simp] theorem codesOf_phReset : codesOf .phReset = [0#4, 2#4, 3#4] := rfl
@[simp] theorem codesOf_phStateq : codesOf .phStateq = [0#4, 2#4, 3#4, 6#4] := rfl
@[simp] theorem codesOf_phReq (r : BitVec 4) : codesOf (.phReq r) = [0#4, 2#4, 3#4, 6#4] := rfl
@[simp] theorem codesOf_phAck (c : BitVec 2) : codesOf (.phAck c) = [0#4, 3#4, 6#4] := rfl
@[simp] theorem codesOf_phDatareq (n : BitVec 6) (t : Tick) :
    codesOf (.phDatareq n t) = [0#4, 2#4, 3#4, 4#4, 5#4, 6#4] := rfl
@[simp] theorem codesOf_txbufWr (x : BitVec 6) (b : Byte) : codesOf (.txbufWr x b) = [0#4, 3#4] := rfl
@[simp] theorem codesOf_rxbufRd (x : BitVec 6) : codesOf (.rxbufRd x) = [0#4, 3#4] := rfl
@[simp] theorem codesOf_dlSend (f a : BitVec 1) (p : BitVec 2) (d : Addr) (l : BitVec 4) (y : List Byte) :
    codesOf (.dlSend f a p d l y) = [0#4, 2#4, 5#4] := rfl

/-- Every host command can succeed. -/
theorem none_mem_codesOf {i : Instr} (hi : i.slot = .command) : ErrCode.none.code ∈ codesOf i := by
  cases i <;> cases hi <;> exact List.mem_cons_self

/-- `PH_REQ` takes in the row of `ph_reset`, which it may run (R154). -/
theorem codesOf_phReset_subset (r : BitVec 4) : codesOf .phReset ⊆ codesOf (.phReq r) := by simp

/-- `map_dl` leads every code into the row of `DL_SEND` (R184). -/
theorem mapDl_mem_codesOf_dlSend (e : ErrCode) (f a : BitVec 1) (p : BitVec 2) (d : Addr) (l : BitVec 4)
    (y : List Byte) : (mapDl e).code ∈ codesOf (.dlSend f a p d l y) := by
  cases e <;> simp [mapDl, ErrCode.code]

theorem mapDl_mem_codesOf_dlRecv {e : ErrCode} (he : e.code ∈ codesOf .phDatarcv) :
    (mapDl e).code ∈ codesOf .dlRecv := by
  revert he
  cases e <;> decide

theorem ackResult_mem_codesOf_dlRecv (kind : AckKind) : (ackResult kind).code ∈ codesOf .dlRecv := by
  cases kind <;> decide

/-- The checks of `receive_and_parse` that send no acknowledgement end with a code of its row (R185). -/
theorem silent_mem_codesOf_dlRecv {f : List Byte} {a : Addr} {busy : Bool} {e : ErrCode}
    (h : frameVerdict f a busy = .silent e) : e.code ∈ codesOf .dlRecv := by
  have hcode : e = .frameError ∨ e = .addressError := by
    simp only [frameVerdict] at h
    split_ifs at h <;> cases h <;> simp
  rcases hcode with rfl | rfl <;> decide

theorem classifyConfirm_mem_codesOf_phDatareq (b : Byte) : (classifyConfirm b).code ∈ codesOf (.phDatareq 0#6 0#32) := by
  unfold classifyConfirm
  split_ifs <;> decide

/-! ### The positions of `data_request` follow each other (R156) -/

/-- The callers of `data_request` are the commands its confirm wait belongs to. -/
theorem posOf_dataConfirm_of_caller {i : Instr} {n : Nat} {t : Tick}
    (hi : (∃ l, i = .phDatareq l t ∧ l.toNat = n) ∨
      (t = Config.tDl ∧ ∃ f a p d l y, i = .dlSend f a p d l y ∧ n = 7 + l.toNat)) : posOf i .dataConfirm := by
  rcases hi with ⟨l, rfl, -⟩ | ⟨-, f, a, p, d, l, y, rfl, -⟩
  · exact .inl ⟨l, t, rfl⟩
  · exact .inr ⟨f, a, p, d, l, y, rfl⟩

theorem posOf_dataConfirm {i : Instr} {n j : Nat} {t : Tick} (hp : posOf i (.dataMark n t j)) : posOf i .dataConfirm := by
  obtain ⟨-, -, -, hi⟩ := hp
  exact posOf_dataConfirm_of_caller hi

theorem posOf_dataMark_next {i : Instr} {n j : Nat} {t : Tick} (hp : posOf i (.dataByte n t j)) (hj : j + 1 < n) :
    posOf i (.dataMark n t (j + 1)) := by
  obtain ⟨h2, h22, -, hi⟩ := hp
  exact ⟨h2, h22, hj, hi⟩

/-! ### The procedures -/

section Procedures

variable {s : State} {i : Instr} (h : InProgress i s)
include h

theorem enterPhReset_onTrack {k : Nat} (hp : posOf i (.resetSend k)) : OnTrack i (enterPhReset k s) :=
  OnTrack.beginWait (s := { s with phState := .reset }) h _ hp

theorem enterPhInit_onTrack {k : Nat} (hp : posOf i (.transportInit k)) : OnTrack i (enterPhInit k s) :=
  .inl ⟨h, hp⟩

/-- `PH_RESET` and `PH_REQ` complete with what `ph_reset` returns; `DL_INIT` goes round again or ends with its own
code (R187). -/
theorem returnPhReset_onTrack {k : Nat} (hp : posOf i (.resetSend k)) {e : ErrCode} (he : e.code ∈ codesOf .phReset) :
    OnTrack i (returnPhReset k e s) := by
  have hl := h.latched
  obtain ⟨rfl | ⟨r, rfl, -⟩, -⟩ | ⟨rfl, -⟩ := hp
  · rw [returnPhReset_host (by simp [hl])]
    exact .complete he
  · rw [returnPhReset_host (by simp [hl])]
    exact .complete (codesOf_phReset_subset r he)
  · simp only [returnPhReset, hl]
    split
    · exact .complete (none_mem_codesOf rfl)
    · split
      next hk => exact enterPhReset_onTrack h (.inr ⟨rfl, hk⟩)
      next => exact .complete (by decide)

theorem returnPhInit_onTrack {k : Nat} (hp : posOf i (.transportInit k)) {e : ErrCode} (he : e.code ∈ codesOf .phInit) :
    OnTrack i (returnPhInit k e s) := by
  have hl := h.latched
  obtain ⟨rfl, -⟩ | ⟨rfl, -⟩ := hp
  · rw [returnPhInit_host (by simp [hl])]
    exact .complete he
  · simp only [returnPhInit, hl]
    split
    · exact enterPhReset_onTrack h (.inr ⟨rfl, nRetry_pos⟩)
    · split
      next hk => exact enterPhInit_onTrack h (.inr ⟨rfl, hk⟩)
      next => exact .complete (by decide)

/-- The row of `PH_DATAREQ` is the same for all operands; `DL_SEND` maps the code (R184). -/
theorem returnDataRequest_onTrack (hp : posOf i .dataConfirm) {e : ErrCode}
    (he : e.code ∈ codesOf (.phDatareq 0#6 0#32)) : OnTrack i (returnDataRequest e s) := by
  obtain ⟨n, t, rfl⟩ | ⟨f, a, p, d, l, y, rfl⟩ := hp
  · rw [returnDataRequest_host h.latched]
    exact .complete he
  · rw [returnDataRequest_dlSend h.latched]
    exact .complete (mapDl_mem_codesOf_dlSend e f a p d l y)

theorem enterDataRequest_onTrack {n : BitVec 6} {t : Tick}
    (hi : (∃ l, i = .phDatareq l t ∧ l.toNat = n.toNat) ∨
      (t = Config.tDl ∧ ∃ f a p d l y, i = .dlSend f a p d l y ∧ n.toNat = 7 + l.toNat)) :
    OnTrack i (enterDataRequest n t s) := by
  have hcaller := posOf_dataConfirm_of_caller hi
  unfold enterDataRequest
  split
  · exact returnDataRequest_onTrack h hcaller (by decide)
  · split
    · exact returnDataRequest_onTrack h hcaller (by decide)
    next hn =>
      obtain ⟨h2, h22⟩ := lengthInRange_iff.mp (by simpa using hn)
      exact .beginWait h _ ⟨h2, h22, by omega, hi⟩

/-- `DL_RECV` ignores what `ph_ack` returns (R185). -/
theorem returnPhAck_onTrack {kind : AckKind} (hp : posOf i (.ackSend kind)) {e : ErrCode}
    (he : e.code ∈ codesOf (.phAck kind.code)) : OnTrack i (returnPhAck kind e s) := by
  obtain ⟨c, rfl, -⟩ | rfl := hp
  · rw [returnPhAck_host h.latched]
    exact .complete he
  · rw [returnPhAck_dlRecv h.latched]
    exact .complete (ackResult_mem_codesOf_dlRecv kind)

theorem enterPhAck_onTrack {kind : AckKind} (hp : posOf i (.ackSend kind)) : OnTrack i (enterPhAck kind s) := by
  unfold enterPhAck
  split
  · exact returnPhAck_onTrack h hp (by simp [ErrCode.code])
  · exact .beginWait h _ hp

theorem returnDataReceive_onTrack (hi : i = .phDatarcv ∨ i = .dlRecv) {e : ErrCode} (he : e.code ∈ codesOf .phDatarcv) :
    OnTrack i (returnDataReceive e s) := by
  have hl := h.latched
  rcases hi with rfl | rfl
  · simp only [returnDataReceive, hl]
    exact .complete he
  · simp only [returnDataReceive, hl]
    split
    · unfold parseFrame
      split
      next hv => exact .complete (silent_mem_codesOf_dlRecv hv)
      next => exact enterPhAck_onTrack h (.inr rfl)
    · exact .complete (mapDl_mem_codesOf_dlRecv he)

theorem endDataReceive_onTrack (hi : i = .phDatarcv ∨ i = .dlRecv) (n : Nat) : OnTrack i (endDataReceive n s) := by
  refine returnDataReceive_onTrack (s := { s with rxLen := BitVec.ofNat 6 n }) h hi ?_
  split <;> decide

theorem enterDataReceive_onTrack (hi : i = .phDatarcv ∨ i = .dlRecv) : OnTrack i (enterDataReceive s) := by
  unfold enterDataReceive
  split
  · exact returnDataReceive_onTrack h hi (by decide)
  · exact .beginWait h _ ⟨by decide, hi⟩

/-! ### One engine step -/

/-- A procedure whose send has returned stays on its command's track. -/
theorem afterSend_onTrack (hp : posOf i s.pos) (ok : Bool) : OnTrack i (afterSend s.pos ok s) := by
  cases hpos : s.pos
  all_goals
    rw [hpos] at hp
    simp only [afterSend]
  case sendOne =>
    obtain ⟨t, rfl⟩ := hp
    cases ok
    · exact .complete (by simp [ErrCode.code])
    · exact .complete (none_mem_codesOf rfl)
  case resetSend k =>
    split
    · exact .beginWait h _ hp
    · exact returnPhReset_onTrack h hp (by decide)
  case querySend =>
    split
    · exact .beginWait h _ hp
    · obtain rfl | ⟨r, rfl, -⟩ := hp <;> exact .complete (by simp [ErrCode.code])
  case reqSend r w =>
    obtain ⟨c, rfl, -⟩ := hp
    split
    · exact .complete (none_mem_codesOf rfl)
    · exact .complete (by simp [ErrCode.code])
  case ackSend kind =>
    refine returnPhAck_onTrack h hp ?_
    cases ok <;> simp [ErrCode.code]
  case dataMark n t j =>
    split
    · exact .beginWait h _ hp
    · exact returnDataRequest_onTrack h (posOf_dataConfirm hp) (by decide)
  case dataByte n t j =>
    split
    · split
      next hj => exact .beginWait h _ (posOf_dataMark_next hp hj)
      next => exact .beginWait h _ (posOf_dataConfirm hp)
    · exact returnDataRequest_onTrack h (posOf_dataConfirm hp) (by decide)
  case idle => exact hp.elim
  all_goals exact .inl ⟨h, hpos ▸ hp⟩

/-- A procedure whose wait has accepted a byte stays on its command's track. -/
theorem afterReceive_onTrack (hp : posOf i s.pos) (b : Byte) : OnTrack i (afterReceive s.pos b s) := by
  cases hpos : s.pos
  all_goals
    rw [hpos] at hp
    simp only [afterReceive]
  case recvOne | waitByte | waitMask =>
    obtain ⟨t, rfl⟩ := hp
    exact .complete (none_mem_codesOf rfl)
  case queryWait => obtain rfl | ⟨r, rfl, -⟩ := hp <;> exact .complete (none_mem_codesOf rfl)
  case resetWait k => exact returnPhReset_onTrack (s := { s with phState := .normal }) h hp (by decide)
  case dataConfirm => exact returnDataRequest_onTrack h hp (classifyConfirm_mem_codesOf_phDatareq b)
  case dataRecv n =>
    obtain ⟨-, hi⟩ := hp
    split
    next hn => exact OnTrack.beginWait (s := s.writeRx n b) h _ ⟨hn, hi⟩
    next => exact endDataReceive_onTrack (s := s.writeRx n b) h hi _
  case idle => exact hp.elim
  all_goals exact .inl ⟨h, hpos ▸ hp⟩

/-- A procedure whose wait has reached its deadline stays on its command's track. -/
theorem afterDeadline_onTrack (hp : posOf i s.pos) : OnTrack i (afterDeadline s.pos s) := by
  cases hpos : s.pos
  all_goals
    rw [hpos] at hp
    simp only [afterDeadline]
  case recvOne | waitByte | waitMask =>
    obtain ⟨t, rfl⟩ := hp
    exact .complete (by simp [ErrCode.code])
  case queryWait => obtain rfl | ⟨r, rfl, -⟩ := hp <;> exact .complete (by simp [ErrCode.code])
  case resetWait k => exact returnPhReset_onTrack h hp (by decide)
  case dataConfirm => exact returnDataRequest_onTrack h hp (by decide)
  case dataRecv n => exact endDataReceive_onTrack h hp.2 n
  case idle => exact hp.elim
  all_goals exact .inl ⟨h, hpos ▸ hp⟩

theorem sendStep_onTrack (hp : posOf i s.pos) (a : SendAnswer) : OnTrack i (sendStep a s) := by
  unfold sendStep
  split
  · exact .inl ⟨h, hp⟩
  next b _ =>
    cases a with
    | ok => exact afterSend_onTrack (s := s.pushTx b) h hp true
    | busy | error =>
      dsimp only
      split
      · exact afterSend_onTrack (s := s.pollUpdate) h hp false
      · exact .inl ⟨h, hp⟩

theorem receiveStep_onTrack (hp : posOf i s.pos) (a : RecvAnswer) : OnTrack i (receiveStep a s) := by
  have hmissed {u : State} (hu : InProgress i u) (hup : posOf i u.pos) :
      OnTrack i (if u.pollFlag then afterDeadline u.pos u.pollUpdate else u.pollUpdate) := by
    split
    · exact afterDeadline_onTrack (s := u.pollUpdate) hu hup
    · exact .inl ⟨hu, hup⟩
  cases a with
  | ok b =>
    cases hacc : s.pos.accepts b with
    | true =>
      rw [receiveStep_accepted hacc]
      exact afterReceive_onTrack (s := s.pushRx b) h hp b
    | false =>
      simp only [receiveStep, hacc]
      exact hmissed (u := s.pushRx b) h hp
  | busy | error => exact hmissed h hp

theorem initStep_onTrack (hp : posOf i s.pos) (a : InitAnswer) : OnTrack i (initStep a s) := by
  unfold initStep
  split
  next k hpos =>
    rw [hpos] at hp
    cases a with
    | ok => exact returnPhInit_onTrack (s := { s with phState := .reset }) h hp (by decide)
    | error => exact returnPhInit_onTrack h hp (by decide)
  next => exact .inl ⟨h, hp⟩

end Procedures

/-- Every engine step keeps a command on its track; after completion there is none. -/
theorem engineMove_onTrack {i : Instr} {s t : State} (h : OnTrack i s) (hm : engineMove s = some t) : OnTrack i t := by
  rcases h with ⟨h, hp⟩ | ⟨hidle, -⟩
  · exact engineMove_induct (fun _ t => OnTrack i t) hm
      (fun a rest _ => sendStep_onTrack (s := s.setInputs rest) h hp a)
      (fun a rest _ => receiveStep_onTrack (s := s.setInputs rest) h hp a)
      (fun a rest _ => initStep_onTrack (s := s.setInputs rest) h hp a)
  · simp [engineMove_idle hidle] at hm

theorem turn_onTrack {i : Instr} {s : State} (h : OnTrack i s) : OnTrack i (turn s) :=
  turn_induct (fun _ _ => engineMove_onTrack) s h

/-! ### The issue of a host command -/

theorem enterStateQuery_onTrack {s : State} {i : Instr} (h : InProgress i s) (hp : posOf i .querySend) :
    OnTrack i (enterStateQuery s) := by
  unfold enterStateQuery
  split
  · obtain rfl | ⟨r, rfl, -⟩ := hp <;> exact .complete (by simp [ErrCode.code])
  · exact .beginWait h _ hp

theorem enterPhRequest_onTrack {s : State} {c : BitVec 4} (h : InProgress (.phReq c) s) :
    OnTrack (.phReq c) (enterPhRequest (Req.ofCode c) s) := by
  unfold enterPhRequest
  split
  · exact .complete (by simp [ErrCode.code])
  next hr _ => exact enterPhReset_onTrack h (.inl ⟨.inr ⟨c, rfl, hr⟩, rfl⟩)
  next hr _ => exact enterStateQuery_onTrack h (.inr ⟨c, rfl, hr⟩)
  next w hw hreset hquery =>
    split
    · exact .complete (by simp [ErrCode.code])
    · exact .beginWait h _ ⟨c, rfl, rfl, hw, hreset, hquery⟩

/-- A latched host command's procedure leads onto the command's track. -/
theorem procedureOf_onTrack {s : State} {i : Instr} (hi : i.slot = .command) (h : InProgress i s) :
    OnTrack i (procedureOf i s) := by
  cases i
  all_goals dsimp only [procedureOf]
  case phSend b t => exact .beginWait h t ⟨t, rfl⟩
  case phRecv t => exact .beginWait h t ⟨t, rfl⟩
  case phWait b t => exact .beginWait h t ⟨t, rfl⟩
  case phWaitm b t => exact .beginWait h t ⟨t, rfl⟩
  case phInit => exact enterPhInit_onTrack h (.inl ⟨rfl, rfl⟩)
  case dlInit => exact enterPhInit_onTrack h (.inr ⟨rfl, nRetry_pos⟩)
  case phReset => exact enterPhReset_onTrack h (.inl ⟨.inl rfl, rfl⟩)
  case phStateq => exact enterStateQuery_onTrack h (.inl rfl)
  case phReq c => exact enterPhRequest_onTrack h
  case phAck c =>
    split
    · exact .complete (by simp [ErrCode.code])
    next k hk => exact enterPhAck_onTrack h (.inl ⟨c, rfl, hk⟩)
  case phDatareq l t => exact enterDataRequest_onTrack h (.inl ⟨l, rfl, rfl⟩)
  case phDatarcv => exact enterDataReceive_onTrack h (.inl rfl)
  case dlRecv => exact enterDataReceive_onTrack h (.inr rfl)
  case dlSend f a p d l y =>
    obtain ⟨m, hm⟩ := build_frame f a p d l y s
    rw [hm]
    exact enterDataRequest_onTrack (s := { s with txBuf := m, txLen := 7#6 + l.setWidth 6 }) h
      (.inr ⟨rfl, f, a, p, d, l, y, rfl, toNat_txLen l⟩)
  case txbufWr idx b | rxbufRd idx =>
    split
    · exact .complete (none_mem_codesOf rfl)
    · exact .complete (by simp [ErrCode.code])
  case tInit | tStart | tStop | tReset | tState | tTicks | tElapsed | phGetstate | dlSetaddr | dlGetaddr =>
    exact .complete (none_mem_codesOf rfl)
  all_goals cases hi

end Sys2Proof.Machine

namespace Sys2Proof.Claims

open Sys2Proof.Machine

/-- Settles O56: the issue of a host command leads onto its track, and every engine step keeps it there. -/
theorem completionCodes : Obligations.CompletionCodes := by
  refine ⟨fun s t i he hb hl hm => (engineMove_onTrack (.of_engineInv he hb hl) hm).weaken,
    fun i s t hi _ hexec => ?_⟩
  obtain ⟨-, rfl⟩ := exec_command_next hi hexec
  exact (turn_onTrack (procedureOf_onTrack hi ⟨rfl, rfl⟩)).weaken

end Sys2Proof.Claims
end

section
/-! SUPPORT. The hardware reset event (R240): no attempt has its answer behind it, so it is what the step takes; and what
it leaves in the buffers and in `OUT_PAYLOAD`. -/

namespace Sys2Proof.Machine

/-- The engine does not move while no kind of attempt has its answer. -/
theorem engineMove_of_no_answer {s : State} (htx : takeTx s.inputs = none) (hrx : takeRx s.inputs = none)
    (hinit : takeInit s.inputs = none) : engineMove s = none := by
  unfold engineMove
  split
  · split
    · rfl
    · rw [htx]; rfl
    · rw [hrx]; rfl
    · rw [hinit]; rfl
  · rfl

/-- A hardware reset at the head of the inputs is what the step takes, whatever the engine is doing. -/
theorem step_hwReset {s : State} {rest : List Input} (h : s.inputs = .hwReset :: rest) :
    step s = .next (s.setInputs rest).hardwareReset := by
  have hm : engineMove s = none :=
    engineMove_of_no_answer (congrArg takeTx h) (congrArg takeRx h) (congrArg takeInit h)
  simp [step, fetch, wireInstr_of_engineMove_none hm, hm, h, takeEvent]

/-- From its length upward a payload is filled with free values (R28). -/
theorem getD_payloadWithFree {payload : List Byte} {i : Nat} (hlen : payload.length ≤ i) (hi : i < 15) (c : Nat)
    (d : Byte) : (payloadWithFree payload c).getD i d = Config.freeValue 8 (c + i) := by
  have hfree : i - payload.length < 15 - payload.length := by omega
  have hnum : c + payload.length + (i - payload.length) = c + i := by omega
  rw [payloadWithFree, List.take_of_length_le (by omega), List.getD_append_right _ _ _ _ hlen]
  simp [List.getD, hfree, hnum]

theorem read_txBuf_hardwareReset (s : State) {i : Nat} (hi : i < 22) :
    s.hardwareReset.txBuf.read i = Config.freeValue 8 (s.freeCtr + 32 + i) := by
  simp only [State.hardwareReset, Memory.read_free _ (show i < Config.maxFrame from hi)]

theorem read_rxBuf_hardwareReset (s : State) {i : Nat} (hi : i < 22) :
    s.hardwareReset.rxBuf.read i = Config.freeValue 8 (s.freeCtr + 64 + i) := by
  simp only [State.hardwareReset, Memory.read_free _ (show i < Config.maxFrame from hi)]

theorem getD_outPayload_hardwareReset (s : State) {i : Nat} (hi : i < 15) (d : Byte) :
    s.hardwareReset.outPayload.getD i d = Config.freeValue 8 (s.freeCtr + i) :=
  getD_payloadWithFree (payload := []) (Nat.zero_le i) hi s.freeCtr d

end Sys2Proof.Machine

namespace Sys2Proof.Claims

open Sys2Proof.Machine

/-- Settles O2: the step is the hardware reset. R33's values and what stays are fields of its state; each unspecified
register and each byte of the two buffers and of `OUT_PAYLOAD` is a free value of its own number. -/
theorem hardwareResetEvent : Obligations.HardwareResetEvent := by
  intro s rest h
  refine ⟨_, step_hwReset h, rfl, rfl, rfl, rfl, rfl, rfl, rfl, rfl, rfl, rfl, rfl, rfl, rfl, rfl,
    fun i hi => ⟨_, read_txBuf_hardwareReset _ hi⟩, fun i hi => ⟨_, read_rxBuf_hardwareReset _ hi⟩,
    fun i hi => ⟨_, getD_outPayload_hardwareReset _ hi _⟩, ?_⟩
  and_intros
  all_goals exact ⟨_, rfl⟩

end Sys2Proof.Claims
end
